-- ==== Sys2Proof/Word.lean ====
section
/-! DEFINITION. The bit vectors the spec treats as words: 8-bit values (a command word, a bit-plane, a report byte)
and the 4-bit joystick sample (00_scope.md R5, R7, R13). -/

namespace Sys2Proof

/-- An 8-bit value: a button bit-plane, a command word or a report byte (R5, R13). -/
abbrev Byte := BitVec 8

/-- A 4-bit value: the joystick lines in canonical order (R7, R14). -/
abbrev Nibble := BitVec 4

end Sys2Proof
end

