-- ==== Sys2Proof/Syntax.lean ====
section
/-! DEFINITION. The commands: one constructor per row of spec/opcode_table.json (30_encoding.md R62, R63).
No command has a register, immediate or mode field (R61, R65): operands arrive beside the command word.
RESET is no command (R67): it is the input `rst` of a `Machine.Request`. -/

namespace Sys2Proof

/-- A decoded command word (R64: `{NOP, TICK, BUILD, CONSUME, Reserved(b)}`). -/
inductive Instr where
  /-- `0x00`: the idle step (42_report.md R119). -/
  | nop
  /-- `0x01`: one tick of the debounce engine (41_debounce.md R90). -/
  | tick
  /-- `0x02`: `create_report` (42_report.md R110). -/
  | build
  /-- `0x03`: `process_report` (42_report.md R117). -/
  | consume
  /-- `0x04` to `0xFF`: the word spells no command (R63). -/
  | reserved (word : Byte)
deriving DecidableEq, Repr

end Sys2Proof
end

