-- ==== Sys2Proof/WellFormed.lean ====
section
/-! DEFINITION. Which terms of `Instr` some command word spells. -/

namespace Sys2Proof

/-- The one check: a reserved word lies in `0x04` to `0xFF` (30_encoding.md R63). -/
def Instr.wf : Instr → Bool
  | .nop => true
  | .tick => true
  | .build => true
  | .consume => true
  | .reserved word => decide (0x04#8 ≤ word)

end Sys2Proof
end

