-- ==== Sys2Proof/Decode.lean ====
section
/-! DEFINITION. Command words to commands and back (30_encoding.md §2). The whole 8-bit word is the opcode, every
command is one word long, and decoding is total on all 256 words (R61, R62, R64). -/

namespace Sys2Proof

/-- R62 to R64: match on all 8 bits; every other word is reserved. -/
def decodeWord (w : Byte) : Instr :=
  if w = 0x00#8 then .nop
  else if w = 0x01#8 then .tick
  else if w = 0x02#8 then .build
  else if w = 0x03#8 then .consume
  else .reserved w

/-- Why a list of bytes gives no command. -/
inductive DecodeReject where
  /-- There is no byte: a command is one word (R61). -/
  | noWord
deriving DecidableEq, Repr

/-- The first command of a list of bytes, and the bytes after it (R61: its length is always one word). -/
def decode : List Byte → Except DecodeReject (Instr × List Byte)
  | [] => .error .noWord
  | w :: rest => .ok (decodeWord w, rest)

/-- The commands of a whole list of command bytes, in issue order (R61, R68). -/
def decodeStream : List Byte → List Instr
  | [] => []
  | w :: rest => decodeWord w :: decodeStream rest

/-- The command word of a well-formed command, from the opcode map (R62, R63). -/
def encodeWord : Instr → Byte
  | .nop => 0x00#8
  | .tick => 0x01#8
  | .build => 0x02#8
  | .consume => 0x03#8
  | .reserved word => word

/-- The words of a well-formed command: one (R61). -/
def encode (i : Instr) : List Byte := [encodeWord i]

/-- The command bytes of a list of commands (R68: a program's encoding is its sequence of command bytes). -/
def encodeStream : List Instr → List Byte
  | [] => []
  | i :: rest => encode i ++ encodeStream rest

/-- The first `n` bytes of a number, the least significant first (the opcode table's numbering). -/
def tableBytes : Nat → Nat → List Byte
  | 0, _ => []
  | n + 1, w => BitVec.ofNat 8 w :: tableBytes n (w / 256)

/-- What the decoder reads from a word numbered as spec/opcode_table.json numbers it. -/
def decodeTableWord (nbits w : Nat) : Option Instr :=
  match decode (tableBytes (nbits / 8) w) with
  | .ok (i, _) => some i
  | .error _ => none

end Sys2Proof
end

