-- ==== Sys2Proof/Config.lean ====
section
/-! DEFINITION. What an implementation fixes (00_scope.md §3) and the model's one free value.
The numbers of R5 and R7 to R10 are definitions. The open parameters of R11 and R12 are constants without a body:
no rule of the spec depends on them, and nothing can be proved of their values.
`BUTTON_MASK` (R6) is a field of `Params`, which the machine carries and no step changes, so that a statement about
every state is a statement about every mask. -/

namespace Sys2Proof

/-- The four joystick directions (R7). -/
inductive Direction where
  | up | down | left | right
deriving DecidableEq, Repr

namespace Config

/-- R5 `N_BTN_BITS`: the button port has 8 lines. -/
def nBtnBits : Nat := 8

/-- R7 `N_JOY_BITS`: the joystick sample has 4 bits. -/
def nJoyBits : Nat := 4

/-- R8 `COUNTER_BITS`: each line's counter has 2 bits. -/
def counterBits : Nat := 2

/-- R8 `DEBOUNCE_WINDOW`: the ticks of contiguous disagreement before acceptance, `2 ^ COUNTER_BITS`. -/
def debounceWindow : Nat := 2 ^ counterBits

/-- R9 `AXIS_MAG`: the magnitude of an asserted axis. -/
def axisMag : Int := 100

/-- R10 `REPORT_SIZE`: the bytes of a report. -/
def reportSize : Nat := 3

/-- The parameters of one block that a rule depends on, fixed when the block is instantiated (R6, R28). -/
structure Params where
  /-- R6 `BUTTON_MASK`: the valid button lines. -/
  buttonMask : Byte
deriving DecidableEq, Repr

/-- R6: the default mask gives all 8 lines. -/
def Params.standard : Params := ⟨0xFF#8⟩

/-- R11 `TICK_PERIOD`, OPEN: the wall-clock time between two TICKs, in a unit of the implementer's choice. -/
opaque tickPeriod : Nat

/-- R11: the debounce window in wall-clock time, `4 × TICK_PERIOD` (informative: R103, R157). -/
def debounceWindowTime : Nat := debounceWindow * tickPeriod

/-- R12 `JOY_PIN_MAP`, OPEN: the electrical pin that carries each direction.
The block's interface takes the lines already in canonical order, so no rule reads this. -/
opaque joyPinMap : Direction → Nat

/-- R12, OPEN: the microcontroller port of the buttons. -/
opaque buttonPort : Nat

/-- R12, OPEN: the microcontroller port of the joystick. -/
opaque joystickPort : Nat

/-- FREE VALUE (log 3): what a bit-plane holds after power came on and before the first RESET, where R29 says it
holds no value. The argument counts the draws. -/
opaque lostPlane : Nat → Byte

end Config

end Sys2Proof
end

