-- ==== Sys2Proof/Machine/State.lean ====
section
/-! DEFINITION. The state: the block's record of 10_state.md R20, and around it what one step needs from the host's
side of the interface (30_encoding.md R60): the instance's parameters, the interface lines, the steps the host has
still to issue, the outputs of the last step, and the host memory that BUILD writes to. -/

namespace Sys2Proof.Machine

/-- Why a command faults (60_exceptions.md R130: there is one reason). -/
inductive Fault where
  /-- `UNINIT` (R133): NOP, TICK, BUILD or CONSUME was issued before the first reset. Raised by each of the four
  commands. Safe: nothing can be proved of a run that goes on from there. -/
  | uninit
deriving DecidableEq, Repr

/-- Why the machine has no meaning for a step (60_exceptions.md R131). -/
inductive Refusal where
  /-- An instruction without a meaning in this model. Raised by an arm of `exec` only; no arm does. Safe. -/
  | notModelled (mnemonic : String)
  /-- `RESERVED_CMD` (30_encoding.md R63): the command word is `0x04` to `0xFF`. Raised by `execReserved`. Safe. -/
  | reservedCmd
  /-- `SHORT_BUFFER` (20_memory.md R44): the buffer offered to BUILD holds fewer than 3 bytes. Raised by `execBuild`.
  Safe. -/
  | shortBuffer
  /-- `OVERLAP` (60_exceptions.md R137, 70_reset_and_hazards.md R158): the command was issued while another was in
  progress. Raised by `refuseOverlap`. Safe. -/
  | overlap
deriving DecidableEq, Repr

/-- Why an observation gives nothing. No command observes, so this is no reason for a command to stop. -/
inductive ObservationFault where
  /-- R26: `rpt` is read while `rpt_valid = 0`, where it holds no value. Raised by `State.observeReport`. Safe. -/
  | reportHasNoValue
deriving DecidableEq, Repr

/-- The three bit-planes: the engine's state, one lane per button line (R21 to R24, R35). -/
structure Planes where
  c0 : Byte
  c1 : Byte
  conf : Byte
deriving DecidableEq, Repr

/-- A report `[X:int8][Y:int8][Button:uint8]` (R26, R41). -/
structure Report where
  x : Byte
  y : Byte
  btn : Byte
deriving DecidableEq, Repr

/-- What BUILD answers on the interface, beside the report (R60, R115). -/
structure Outputs where
  outSize : Nat
  ret : Bool
  produced : Bool
deriving DecidableEq, Repr

/-- The `report_type` argument of the two entry points; the source gives it no width (R66, R117). -/
inductive ReportType where
  | out
  | feature
  | other (code : Nat)
deriving DecidableEq, Repr

/-- The interface inputs during one step (R60). -/
structure Request where
  /-- The reset request (R67, R150). -/
  rst : Bool
  /-- The command word (R61). -/
  cmd : Byte
  /-- The electrical level of the button lines, 1 = high: a free draw of this step (R84). -/
  btnPin : Byte
  /-- The electrical level of the joystick lines in canonical order, 1 = high: a free draw of this step (R84). -/
  joyPin : Nibble
  /-- BUILD's destination: the host's address of `out_buffer` (R40, R43). -/
  outBuffer : Nat
  /-- The bytes that `out_buffer` can hold (R44). -/
  outCapacity : Nat
  /-- `create_report`'s `report_id_in_out`: left as it is (R115). -/
  reportIdInOut : Nat
  /-- `create_report`'s `report_type`: not read (R115). -/
  createType : ReportType
  /-- `process_report`'s `report_id`: ignored (R117). -/
  reportId : Nat
  /-- `process_report`'s `report_type`: ignored (R117). -/
  processType : ReportType
  /-- The host's address of `in_buffer`: never read (R48). -/
  inBuffer : Nat
  /-- `process_report`'s `in_size`: ignored (R117). -/
  inSize : Nat
  /-- The host issues this step while the command before it is still in progress (R137). -/
  overlapping : Bool
deriving DecidableEq, Repr

/-- The interface at rest: every line high (R81), NOP on the command lines (R119), a buffer of 3 bytes and a payload
of 0 bytes (the defaults of R68). DESIGN CHOICE for the other values, which no rule reads (log 6). -/
def Request.atRest : Request where
  rst := false
  cmd := 0x00#8
  btnPin := 0xFF#8
  joyPin := 0xF#4
  outBuffer := 0
  outCapacity := Config.reportSize
  reportIdInOut := 0
  createType := .other 0
  reportId := 0
  processType := .out
  inBuffer := 0
  inSize := 0
  overlapping := false

/-- The USB lifecycle events (R142, R148). -/
inductive Lifecycle where
  | connect | disconnect | configurationChange | controlRequest | startOfFrame
deriving DecidableEq, Repr

/-- What the world around the block does in one step (60_exceptions.md R142, R146).
DESIGN CHOICE (log 16): no event is a write of the host to its own memory, so between commands `State.mem` stays as it
is; the spec is silent on what the host does with its buffers there. -/
inductive Event where
  /-- The host drives the interface for one step: a reset or a command. -/
  | drive (r : Request)
  /-- A USB lifecycle event: nothing reaches the block (R148). -/
  | lifecycle (e : Lifecycle)
  /-- Power is lost and comes back (R146, R151). -/
  | powerLoss
deriving DecidableEq, Repr

/-- Host memory: the bytes written so far, at strictly rising addresses. -/
abbrev Memory := List Host.Cell

/-- The canonical form: strictly rising addresses. No entry can equal what an unlisted byte reads as, which is no value
(`Memory.unlisted`). -/
abbrev Memory.wf (m : Memory) : Prop := m.Pairwise (fun a b => a.1 < b.1)

/-- The machine. -/
structure State where
  /-- The instance's parameters; no step changes them (R28, R33). -/
  params : Config.Params
  /-- The low bit of each line's counter (R21). -/
  c0 : Byte
  /-- The high bit of each line's counter (R22). -/
  c1 : Byte
  /-- The confirmed state of each line (R23). -/
  conf : Byte
  /-- The report last built, or no value (R26). -/
  rpt : Option Report
  /-- A BUILD has completed since reset (R20). -/
  rptValid : Bool
  /-- A reset has been applied (R29). -/
  init : Bool
  /-- The fault mark (R31, R130). -/
  fault : Option Fault
  /-- The refusal mark (R31, R131). -/
  refused : Option Refusal
  /-- The outputs that the last step drove, if it drove any; no command reads them (R30, R115). -/
  outputs : Option Outputs
  /-- The host memory that holds `out_buffer` (R40): the host's, not the block's (R33). Only BUILD and a power loss
  change it (log 16). -/
  mem : Memory
  /-- The interface lines of the last step the host drove (R60): the host's, not the block's (R33). -/
  port : Request
  /-- The steps still to come, the next one first (R51, R61): the host's, not the block's. -/
  pending : List Event
  /-- The free values drawn so far: the model's own field (log 3). -/
  draws : Nat
deriving DecidableEq, Repr

/-- How a command ends. -/
abbrev Result := Host.Outcome State Fault Refusal

/-- The machine right after RESET (70_reset_and_hazards.md R150, 10_state.md R20), with the default parameters (R6),
no mark, no output, nothing in host memory, and nothing still to come. -/
def State.reset : State where
  params := Config.Params.standard
  c0 := 0x00#8
  c1 := 0x00#8
  conf := 0x00#8
  rpt := none
  rptValid := false
  init := true
  fault := none
  refused := none
  outputs := none
  mem := []
  port := Request.atRest
  pending := []
  draws := 0

/-- The machine when power has come on and no RESET has been applied (R29): the bit-planes hold no value, so they
are free values here. -/
def State.powerOn : State :=
  { State.reset with
    c0 := Config.lostPlane 0
    c1 := Config.lostPlane 1
    conf := Config.lostPlane 2
    init := false
    draws := 3 }

end Sys2Proof.Machine
end

