-- ==== Sys2Proof/Machine/Ops.lean ====
section
/-! DEFINITION. The operations the meanings share: bytes of host memory, the writes to the state record, the marks,
RESET, power loss, and taking a step from the host. The block takes no exception and returns from none (R132, R137,
R138): a command that does not complete leaves a mark, by `raiseFault` or `refuse`. -/

namespace Sys2Proof.Machine

/-- What a byte that no one has written reads as: no value. The spec says nothing of the host's memory (log 5). -/
def Memory.unlisted : Option Byte := none

/-- One byte of host memory, or no value where nothing has been written. -/
def Memory.read : Memory → Nat → Option Byte
  | [], _ => Memory.unlisted
  | (k, v) :: m, a => if k = a then some v else Memory.read m a

/-- Write one byte, keeping the addresses strictly rising. -/
def Memory.write : Memory → Nat → Byte → Memory
  | [], a, b => [(a, b)]
  | (k, v) :: m, a, b =>
    if a < k then (a, b) :: (k, v) :: m
    else if a = k then (a, b) :: m
    else (k, v) :: Memory.write m a b

/-- R15 `MemWrite` at offsets 0, 1, 2, … of a buffer at address `a`. -/
def Memory.writeBytes : Memory → Nat → List Byte → Memory
  | m, _, [] => m
  | m, a, b :: bs => Memory.writeBytes (m.write a b) (a + 1) bs

/-- R41, R42: the bytes of a report, the first on the wire first. -/
def Report.bytes (r : Report) : List Byte := [r.x, r.y, r.btn]

/-- R15 `raise Fault(reason)`, R130. -/
def raiseFault (r : Fault) : Result := .fault r

/-- R15 `refuse(reason)`, R131. -/
def refuse (r : Refusal) : Result := .refused r

/-- R133: every command faults with `UNINIT` while `init = 0`. -/
def whenInit (s : State) (run : Result) : Result :=
  if s.init then run else raiseFault .uninit

/-- Write the three bit-planes together (R15: all writes of a command take effect at its end). -/
def State.setPlanes (s : State) (p : Planes) : State :=
  { s with c0 := p.c0, c1 := p.c1, conf := p.conf }

/-- Write `rpt` and set `rpt_valid` (R26, R110). -/
def State.storeReport (s : State) (r : Report) : State :=
  { s with rpt := some r, rptValid := true }

/-- Write a report at offsets 0, 1 and 2 of the host's `out_buffer`, and nothing else (R40, R46). -/
def State.writeOutBuffer (s : State) (r : Report) : State :=
  { s with mem := s.mem.writeBytes s.port.outBuffer r.bytes }

/-- RESET (R150): what it writes, marks, parameters, host memory and interface left as they are. -/
def State.applyReset (s : State) : State :=
  { s with c0 := 0x00#8, c1 := 0x00#8, conf := 0x00#8, rpt := none, rptValid := false, init := true }

/-- Power is lost and comes back (R146, R151): no state survives and no reset has been applied yet (R29).
The planes become free values, and what host memory holds is not known any more (log 3, log 5). -/
def State.losePower (s : State) : State :=
  { s with
    c0 := Config.lostPlane s.draws
    c1 := Config.lostPlane (s.draws + 1)
    conf := Config.lostPlane (s.draws + 2)
    rpt := none
    rptValid := false
    init := false
    outputs := none
    mem := []
    draws := s.draws + 3 }

/-- The host drives the lines for a step: the outputs of the step before are over (R30), and `rest` is still to come. -/
def State.present (s : State) (r : Request) (rest : List Event) : State :=
  { s with port := r, pending := rest, outputs := none }

/-- An event that does not reach the block is over (R148). -/
def State.passEvent (s : State) (rest : List Event) : State := { s with pending := rest }

/-- The lines with the command word `w` on them, no reset and no overlap, and every other line as it stands. -/
def Request.issuing (r : Request) (w : Byte) : Request := { r with rst := false, cmd := w, overlapping := false }

/-- The host's next step issues the command word `w`, with every other line as it stands. -/
def State.issueWord (s : State) (w : Byte) : State :=
  { s with pending := .drive (s.port.issuing w) :: s.pending }

/-- R130, R131: a marked state is quiescent. -/
def State.marked (s : State) : Bool := s.fault.isSome || s.refused.isSome

/-- R137: a command that would complete is refused when it was issued while another was in progress.
R134 lists the other marks and records the first that applies, so they come first (DESIGN CHOICE, log 8). -/
def refuseOverlap (r : Request) : Result → Result
  | .next t => if r.overlapping then refuse .overlap else .next t
  | .fault f => .fault f
  | .refused f => .refused f

/-- The state after a step that ended with `o`: a step that faults or is refused writes nothing but the mark
(R130, R131). -/
def State.settle (s : State) : Result → State
  | .next t => t
  | .fault r => { s with fault := some r }
  | .refused r => { s with refused := some r }

/-- R26, R32: what an observer reads of `rpt`; while it holds no value the read faults and picks nothing. -/
def State.observeReport (s : State) : Except ObservationFault Report :=
  match s.rptValid, s.rpt with
  | true, some r => .ok r
  | true, none => .error .reportHasNoValue
  | false, _ => .error .reportHasNoValue

end Sys2Proof.Machine
end

