-- ==== Sys2Proof/Machine/Operands.lean ====
section
/-! DEFINITION. Every operand a command takes (30_encoding.md R65): the two sampler reads of 40_sampler.md, the
buffer capacity, and the value forms of 00_scope.md R13 and R14. A sampler read is a function of the state that
returns a value and nothing else, so it has no side effect and cannot fail (R47, R83). -/

namespace Sys2Proof.Machine

/-- R13 `int8(v)`: the 8-bit two's-complement pattern of an integer. -/
def int8 (v : Int) : Byte := BitVec.ofInt 8 v

/-- R14: the bit of each direction in the canonical order. -/
def directionBit : Direction → Nat
  | .up => 0
  | .down => 1
  | .left => 2
  | .right => 3

/-- A direction is asserted in a joystick sample. -/
def asserted (j : Nibble) (d : Direction) : Bool := j.getLsbD (directionBit d)

/-- R80 `SampleButtons()`: the lines that read low, masked to the valid ones (R81). -/
def sampleButtons (s : State) : Byte := ~~~ s.port.btnPin &&& s.params.buttonMask

/-- R82 `SampleJoystick()`: the lines that read low. -/
def sampleJoystick (s : State) : Nibble := ~~~ s.port.joyPin &&& 0xF#4

/-- R44: the host's buffer can hold a report. -/
def bufferHoldsReport (s : State) : Bool := decide (Config.reportSize ≤ s.port.outCapacity)

end Sys2Proof.Machine
end

