-- ==== Sys2Proof/Machine/Debounce.lean ====
section
/-! DEFINITION. The debounce engine and its command TICK (41_debounce.md). -/

namespace Sys2Proof.Machine

/-- R91: the change detector. -/
def changeDetector (raw conf : Byte) : Byte := raw ^^^ conf

/-- R104 `debounceStep`: the last five lines of R90's pseudocode, on all eight lanes at once. -/
def debounceStep (c0 c1 conf raw buttonMask : Byte) : Planes :=
  let delta := changeDetector raw conf
  let flip := delta &&& c1 &&& c0
  { c0 := delta &&& ~~~ c0
    c1 := delta &&& (c1 ^^^ c0)
    conf := (conf ^^^ flip) &&& buttonMask }

/-- The state after one tick of every line (R90, R102). -/
def State.ticked (s : State) : State :=
  s.setPlanes (debounceStep s.c0 s.c1 s.conf (sampleButtons s) s.params.buttonMask)

/-- TICK (R90). -/
def execTick (s : State) : Result := whenInit s (.next s.ticked)

end Sys2Proof.Machine
end

