-- ==== Sys2Proof/Machine/HostCommands.lean ====
section
/-! DEFINITION. The commands that leave the block as it is (42_report.md §2, §3), and the words that spell none. -/

namespace Sys2Proof.Machine

/-- CONSUME (R117): a report from the host is accepted and discarded, whatever its id, type, size and bytes. -/
def execConsume (s : State) : Result := whenInit s (.next s)

/-- NOP (R119): the idle step. -/
def execNop (s : State) : Result := whenInit s (.next s)

/-- A reserved word (30_encoding.md R63): refused, in every state, before `init` is looked at (R134). -/
def execReserved (_word : Byte) (_s : State) : Result := refuse .reservedCmd

end Sys2Proof.Machine
end

