-- ==== Sys2Proof/Machine/Flags.lean ====
section
/-! DEFINITION. The block has no condition codes and no status flags (10_state.md R30). What a command drives beside
its state is the outputs of BUILD, and they are here (42_report.md R115). -/

namespace Sys2Proof.Machine

/-- R115: `out_size = 3`, `ret = false` and `produced = 1`, for every BUILD. -/
def buildOutputs : Outputs where
  outSize := Config.reportSize
  ret := false
  produced := true

/-- Drive a command's outputs for this step. -/
def State.driveOutputs (s : State) (o : Outputs) : State := { s with outputs := some o }

end Sys2Proof.Machine
end

