-- ==== Sys2Proof/Machine/ReportBuilder.lean ====
section
/-! DEFINITION. The report builder and its command BUILD (42_report.md §1). -/

namespace Sys2Proof.Machine

/-- One axis: the negative direction has priority over the positive one; neither gives 0 (R111, R112). -/
def axisValue (negative positive : Bool) : Byte :=
  if negative then int8 (-Config.axisMag)
  else if positive then int8 Config.axisMag
  else int8 0

/-- R112 `ReportX(j)`: LEFT over RIGHT. -/
def reportX (j : Nibble) : Byte := axisValue (asserted j .left) (asserted j .right)

/-- R111 `ReportY(j)`: UP over DOWN. -/
def reportY (j : Nibble) : Byte := axisValue (asserted j .up) (asserted j .down)

/-- R122: the report is a function of the joystick sample and the confirmed state; Button is `conf` verbatim (R113). -/
def buildReport (j : Nibble) (conf : Byte) : Report where
  x := reportX j
  y := reportY j
  btn := conf

/-- All that a completing BUILD writes, for a report already built (R110, R116). -/
def State.deliver (s : State) (r : Report) : State :=
  ((s.writeOutBuffer r).storeReport r).driveOutputs buildOutputs

/-- The state after a completing BUILD: the joystick is sampled once and the report delivered (R85, R110). -/
def State.built (s : State) : State := s.deliver (buildReport (sampleJoystick s) s.conf)

/-- BUILD (R110). -/
def execBuild (s : State) : Result :=
  whenInit s (if bufferHoldsReport s then .next s.built else refuse .shortBuffer)

end Sys2Proof.Machine
end

