-- ==== Sys2Proof/Machine/Dispatch.lean ====
section
/-! DEFINITION. One arm per command. -/

namespace Sys2Proof.Machine

def exec (i : Instr) (s : State) : Host.Outcome State Fault Refusal :=
  match i with
  | .nop => Sys2Proof.Machine.execNop s
  | .tick => Sys2Proof.Machine.execTick s
  | .build => Sys2Proof.Machine.execBuild s
  | .consume => Sys2Proof.Machine.execConsume s
  | .reserved b => Sys2Proof.Machine.execReserved b s

end Sys2Proof.Machine
end

