-- ==== Sys2Proof/Machine/Sequencer.lean ====
section
/-! DEFINITION. How a step from the host becomes a step of the machine. The block fetches nothing and has no program
counter (10_state.md R27, 20_memory.md R55): the host presents one step at a time, in issue order (R51, R61). -/

namespace Sys2Proof.Machine

/-- One driven step (60_exceptions.md R134): a reset is applied and nothing else is looked at (R152); otherwise the
command word is decoded and run. -/
def runRequest (r : Request) (rest : List Event) (s : State) : Result :=
  if r.rst then .next (s.present r rest).applyReset
  else refuseOverlap r (exec (decodeWord r.cmd) (s.present r rest))

/-- One event of the world around the block (R142, R146, R148). -/
def runEvent (e : Event) (rest : List Event) (s : State) : Result :=
  match e with
  | .drive r => runRequest r rest s
  | .lifecycle _ => .next (s.passEvent rest)
  | .powerLoss => .next (s.passEvent rest).losePower

/-- A marked state has no further step, RESET included: it answers its mark again (R31, R130, R131).
While the host issues nothing the state holds (R146; log 7). -/
def sequencerStep (s : State) : Result :=
  match s.fault, s.refused with
  | some r, _ => .fault r
  | none, some r => .refused r
  | none, none =>
    match s.pending with
    | [] => .next s
    | e :: rest => runEvent e rest s

end Sys2Proof.Machine
end

