-- ==== Sys2Proof/Machine/Step.lean ====
section
/-! DEFINITION. The step function, the state after a step with its marks, and how the host places a command. -/

namespace Sys2Proof.Machine

/-- One step of the machine. -/
def step (s : State) : Host.Outcome State Fault Refusal := sequencerStep s

/-- The state after one step, where a step that stops leaves its mark (R130, R131). -/
def advance (s : State) : State := s.settle (step s)

/-- `s` with the command word `w` as the host's next step (log 4). -/
def State.withFetchWord (s : State) (nbits w : Nat) : State :=
  s.issueWord (BitVec.ofNat 8 (w % 2 ^ nbits))

end Sys2Proof.Machine
end

