-- ==== Sys2Proof/Machine/HostProgram.lean ====
section
/-! DEFINITION. The lines of a host program and the two pseudo-instructions (30_encoding.md §4), as events. -/

namespace Sys2Proof.Machine

/-- R68 `RESET`. -/
def lineReset : Event := .drive { Request.atRest with rst := true }

/-- R68 `NOP`. -/
def lineNop : Event := .drive { Request.atRest with cmd := 0x00#8 }

/-- R68 `TICK btn=`. -/
def lineTick (btn : Byte) : Event := .drive { Request.atRest with cmd := 0x01#8, btnPin := btn }

/-- R68 `BUILD joy= [cap=]`. -/
def lineBuild (joy : Nibble) (cap : Nat := Config.reportSize) : Event :=
  .drive { Request.atRest with cmd := 0x02#8, joyPin := joy, outCapacity := cap }

/-- R68 `CONSUME [size=]`. -/
def lineConsume (size : Nat := 0) : Event :=
  .drive { Request.atRest with cmd := 0x03#8, inSize := size }

/-- R69 `HOLD n, btn=`: `n` copies of the TICK. -/
def hold (n : Nat) (btn : Byte) : List Event := List.replicate n (lineTick btn)

/-- R69 `POLL btn=, joy=`: a TICK and then a BUILD. -/
def poll (btn : Byte) (joy : Nibble) : List Event := [lineTick btn, lineBuild joy]

/-- R68: the encoding of a program is its sequence of command bytes; RESET carries none. -/
def programBytes : List Event → List Byte
  | [] => []
  | .drive r :: rest => if r.rst then programBytes rest else r.cmd :: programBytes rest
  | .lifecycle _ :: rest => programBytes rest
  | .powerLoss :: rest => programBytes rest

end Sys2Proof.Machine
end

