-- ==== Sys2Proof/Safety.lean ====
section
/-! DEFINITION. The terms that claims are stated in: the invariant, one button line seen alone, a host that keeps its
contract, and the history of a line's ticks along a run. The machine uses none of these. -/

namespace Sys2Proof.Machine

/-! ### Outcomes -/

/-- Apply a function to the next state, if there is one. -/
def onNext (f : State → State) : Result → Result
  | .next t => .next (f t)
  | .fault r => .fault r
  | .refused r => .refused r

/-- The next state, if there is one. -/
def nextOf : Result → Option State
  | .next t => some t
  | .fault _ => none
  | .refused _ => none

/-- The same state with other levels on the button pins. -/
def State.withButtonPins (s : State) (b : Byte) : State := { s with port := { s.port with btnPin := b } }

/-- The same state with other levels on the joystick pins. -/
def State.withJoystickPins (s : State) (j : Nibble) : State := { s with port := { s.port with joyPin := j } }

/-- `k` steps, up to the first that stops: `Host.Core.run` of this machine, with its types written out. -/
def runFor : Nat → State → Result
  | 0, s => .next s
  | k + 1, s =>
    match step s with
    | .next t => runFor k t
    | .fault r => .fault r
    | .refused r => .refused r

/-! ### The invariant -/

/-- R25, first part: no bit-plane has a bit outside the mask. -/
abbrev State.MaskedPlanes (s : State) : Prop :=
  s.c0 &&& ~~~ s.params.buttonMask = 0x00#8 ∧ s.c1 &&& ~~~ s.params.buttonMask = 0x00#8 ∧
    s.conf &&& ~~~ s.params.buttonMask = 0x00#8

/-- R114, R121: the only values of an axis byte. -/
def axisBytes : List Byte := [0x9C#8, 0x00#8, 0x64#8]

/-- A report that some BUILD can have built: legal axes, and a Button byte inside the mask. -/
abbrev Report.Legal (buttonMask : Byte) (r : Report) : Prop :=
  r.x ∈ axisBytes ∧ r.y ∈ axisBytes ∧ r.btn &&& ~~~ buttonMask = 0x00#8

/-- What every step keeps. -/
structure State.Inv (s : State) : Prop where
  /-- Host memory has its canonical form. -/
  mem_wf : s.mem.wf
  /-- After a reset the planes lie inside the mask (R25). -/
  masked : s.init = true → s.MaskedPlanes
  /-- `rpt` holds a value exactly while `rpt_valid = 1` (R26). -/
  valid_iff : s.rptValid = s.rpt.isSome
  /-- Before the first reset there is no report (R29). -/
  uninit : s.init = false → s.rpt = none
  /-- The report is one that BUILD can have built (R114, R121). -/
  legal : ∀ r, s.rpt = some r → r.Legal s.params.buttonMask
  /-- Only BUILD drives outputs, and it drives these (R115). -/
  driven : s.outputs = none ∨ s.outputs = some ⟨3, false, true⟩
  /-- A state carries at most one mark (R134). -/
  one_mark : s.fault = none ∨ s.refused = none

/-! ### One line seen alone (R24, R96) -/

/-- A line's count under the names of R18. -/
inductive LineCount where
  | stable | counting1 | counting2 | counting3
deriving DecidableEq, Repr

/-- R18, R24: the count `c1[i]:c0[i]`. -/
def LineCount.ofBits : Bool → Bool → LineCount
  | false, false => .stable
  | false, true => .counting1
  | true, false => .counting2
  | true, true => .counting3

/-- R24: the count as a number, 0 to 3. -/
def LineCount.toNat : LineCount → Nat
  | .stable => 0
  | .counting1 => 1
  | .counting2 => 2
  | .counting3 => 3

/-- R24: the three bits of one line. -/
structure Line where
  count : LineCount
  confirmed : Bool
deriving DecidableEq, Repr

/-- Line `i` of a state. -/
def State.line (s : State) (i : Nat) : Line where
  count := LineCount.ofBits (s.c1.getLsbD i) (s.c0.getLsbD i)
  confirmed := s.conf.getLsbD i

/-- R96: the sixteen rows, in the order of the spec's table: the count and `conf` before, `raw`, and what follows. -/
def lineRow : Line → Bool → Line
  | ⟨.stable, false⟩, false => ⟨.stable, false⟩
  | ⟨.stable, false⟩, true => ⟨.counting1, false⟩
  | ⟨.stable, true⟩, false => ⟨.counting1, true⟩
  | ⟨.stable, true⟩, true => ⟨.stable, true⟩
  | ⟨.counting1, false⟩, false => ⟨.stable, false⟩
  | ⟨.counting1, false⟩, true => ⟨.counting2, false⟩
  | ⟨.counting1, true⟩, false => ⟨.counting2, true⟩
  | ⟨.counting1, true⟩, true => ⟨.stable, true⟩
  | ⟨.counting2, false⟩, false => ⟨.stable, false⟩
  | ⟨.counting2, false⟩, true => ⟨.counting3, false⟩
  | ⟨.counting2, true⟩, false => ⟨.counting3, true⟩
  | ⟨.counting2, true⟩, true => ⟨.stable, true⟩
  | ⟨.counting3, false⟩, false => ⟨.stable, false⟩
  | ⟨.counting3, false⟩, true => ⟨.stable, true⟩
  | ⟨.counting3, true⟩, false => ⟨.stable, false⟩
  | ⟨.counting3, true⟩, true => ⟨.stable, true⟩

/-! ### The host's contract (60_exceptions.md R142) -/

/-- A driven step that executes TICK. -/
def Request.ticks (r : Request) : Bool := !r.rst && r.cmd == 0x01#8

/-- A command within the contract: a word of the opcode map, issued after the command before it has completed, and for
BUILD a buffer that holds a report. -/
def Request.keepsContract (r : Request) : Bool :=
  !r.rst && decide (r.cmd < 0x04#8) && !r.overlapping && (r.cmd != 0x02#8 || decide (3 ≤ r.outCapacity))

/-- A command within the contract, or a lifecycle event: nothing that starts the block anew. -/
def Event.keepsRunning : Event → Bool
  | .drive r => r.keepsContract
  | .lifecycle _ => true
  | .powerLoss => false

/-- An event within the contract: one of these, or a reset. -/
def Event.keepsContract : Event → Bool
  | .drive r => r.rst || r.keepsContract
  | .lifecycle _ => true
  | .powerLoss => false

/-- The event executes TICK. -/
def Event.ticks : Event → Bool
  | .drive r => r.ticks
  | .lifecycle _ => false
  | .powerLoss => false

/-- The raw value of line `i` that a TICK of this event samples (R80). -/
def Event.raw (buttonMask : Byte) (i : Nat) : Event → Bool
  | .drive r => (~~~ r.btnPin &&& buttonMask).getLsbD i
  | .lifecycle _ => false
  | .powerLoss => false

/-- How many events execute TICK. -/
def tickCount (es : List Event) : Nat := (es.filter Event.ticks).length

/-! ### The history of a line along a run (R98) -/

/-- What one TICK did with one line: it disagreed, and its confirmed bit changed. -/
structure LineTick where
  delta : Bool
  flip : Bool
deriving DecidableEq, Repr

/-- The history, the latest TICK first, after the step from `s` to `t`. A reset or a power loss begins a new one. -/
def extendHistory (i : Nat) (s t : State) (h : List LineTick) : List LineTick :=
  match s.pending with
  | [] => h
  | .lifecycle _ :: _ => h
  | .powerLoss :: _ => []
  | .drive r :: _ =>
    if r.rst then []
    else if r.ticks then
      ⟨(~~~ r.btnPin &&& s.params.buttonMask).getLsbD i ^^ s.conf.getLsbD i,
        t.conf.getLsbD i ^^ s.conf.getLsbD i⟩ :: h
    else h

/-- Run `k` steps and keep the history of line `i`; nothing if a step stops. -/
def runWatching (i : Nat) : Nat → State → List LineTick → Option (State × List LineTick)
  | 0, s, h => some (s, h)
  | k + 1, s, h =>
    match step s with
    | .next t => runWatching i k t (extendHistory i s t h)
    | .fault _ => none
    | .refused _ => none

/-- The disagreeing TICKs at the head of a history, up to one that agreed or flipped, which is not counted. -/
def runBefore : List LineTick → Nat
  | [] => 0
  | e :: h => if e.delta && !e.flip then runBefore h + 1 else 0

/-- R98's `r_k`: the consecutive disagreeing TICKs counted back from the latest one, that one included whether or not
it flipped. -/
def disagreeingRun : List LineTick → Nat
  | [] => 0
  | e :: h => if e.delta then runBefore h + 1 else 0

/-- After a reset, the count of line `i` is the run of disagreeing TICKs since the line last agreed or flipped. -/
abbrev State.CountMatches (s : State) (i : Nat) (h : List LineTick) : Prop :=
  s.init = true → (s.line i).count.toNat = runBefore h

end Sys2Proof.Machine
end

