-- ==== Sys2Proof/Certificates/Slice0/Obligations.lean ====
section
/-! DEFINITION. The statements for the provers. A docstring names the rule a statement formalises; where it rests on a
choice that the spec marks as its own (D<n> of 92_eei_decisions.md), or on one of the model's (log <n>), it says so. -/

open Sys2Proof Sys2Proof.Machine

/-! ### Encoding and the step -/

/-- 30_encoding.md §2 (the map is the spec's own choice, D2 and D3): decoding the bytes of well-formed commands gives
them back, in order, each with the bytes after it; and every list of bytes is the encoding of the well-formed commands
it decodes to, so no bit of a word is dropped. -/
def Obligations.DecodeAndEncodeAgree : Prop :=
  (∀ is : List Instr, (∀ i ∈ is, i.wf = true) → decodeStream (encodeStream is) = is) ∧
  (∀ bytes : List Byte,
    encodeStream (decodeStream bytes) = bytes ∧ ∀ i ∈ decodeStream bytes, i.wf = true) ∧
  ∀ (i : Instr) (rest : List Byte), i.wf = true → decode (encode i ++ rest) = .ok (i, rest)

/-- 30_encoding.md R62, R63 (D2, D3): the four words of the opcode map, the reserved range at its two ends and in
between, and no command where there is no word. -/
def Obligations.WordsDecodeByTheOpcodeMap : Prop :=
  decodeWord 0x00#8 = .nop ∧ decodeWord 0x01#8 = .tick ∧ decodeWord 0x02#8 = .build ∧
  decodeWord 0x03#8 = .consume ∧ (∀ w : Byte, 0x04#8 ≤ w → decodeWord w = .reserved w) ∧
  decode [] = .error .noWord

/-- 30_encoding.md §1, §2, 60_exceptions.md R137 (the overlap clause's place in the order is the model's choice,
log 8): when the host's next step drives no reset, the step is `exec` of the decoded command word with that step's
lines on the interface, the step removed from what is still to come, and the outputs of the step before over; an
overlapping command that would complete is refused. -/
def Obligations.StepRunsTheDecodedCommand : Prop :=
  ∀ (s : State) (r : Request) (rest : List Event),
    s.marked = false → s.pending = .drive r :: rest → r.rst = false →
    (r.overlapping = false →
      step s = exec (decodeWord r.cmd) { s with port := r, pending := rest, outputs := none }) ∧
    (r.overlapping = true →
      (∀ t, exec (decodeWord r.cmd) { s with port := r, pending := rest, outputs := none } = .next t →
        step s = .refused .overlap) ∧
      (∀ f, exec (decodeWord r.cmd) { s with port := r, pending := rest, outputs := none } = .fault f →
        step s = .fault f) ∧
      (∀ f, exec (decodeWord r.cmd) { s with port := r, pending := rest, outputs := none } = .refused f →
        step s = .refused f))

/-- The model's own convention (log 4): a placed command word is what the very next step runs, with the other lines as
they stand. -/
def Obligations.PlacedWordRunsNext : Prop :=
  ∀ (s : State) (w : Nat), s.marked = false → w < 256 →
    step (s.withFetchWord 8 w) =
      exec (decodeWord (BitVec.ofNat 8 w))
        { s with port := s.port.issuing (BitVec.ofNat 8 w), outputs := none }

/-! ### TICK -/

/-- 41_debounce.md R90, R104, with the formulas of R92 and R93 (binary count: the spec's own choice, D6), R94 (flip at
count 3: D7) and R95: TICK completes in every state after a reset (D15), and its result is this function of the state
and the sampled `raw` alone; every other field is as it was. -/
def Obligations.TickIsAFunctionOfStateAndSample : Prop :=
  ∀ s : State, s.init = true →
    ∀ raw delta flip : Byte,
      raw = ~~~ s.port.btnPin &&& s.params.buttonMask → delta = raw ^^^ s.conf →
      flip = delta &&& s.c1 &&& s.c0 →
      exec .tick s = .next { s with
        c0 := delta &&& ~~~ s.c0
        c1 := delta &&& (s.c1 ^^^ s.c0)
        conf := (s.conf ^^^ flip) &&& s.params.buttonMask } ∧
      debounceStep s.c0 s.c1 s.conf raw s.params.buttonMask =
        ⟨delta &&& ~~~ s.c0, delta &&& (s.c1 ^^^ s.c0), (s.conf ^^^ flip) &&& s.params.buttonMask⟩

/-- 41_debounce.md R93: a TICK forces both counter bits of every line whose `delta` bit is 0 to 0. -/
def Obligations.AgreeingLinesClearTheirCount : Prop :=
  ∀ (s : State) (i : Nat), s.init = true →
    (sampleButtons s ^^^ s.conf).getLsbD i = false →
    ∃ t, exec .tick s = .next t ∧ t.c0.getLsbD i = false ∧ t.c1.getLsbD i = false

/-- 41_debounce.md §2 (R92 with D6, R94 with D7): on a line that disagrees the count goes up by one modulo 4, and the
confirmed bit flips exactly when the count before the tick is 3. -/
def Obligations.DisagreeingLinesCountAndFlipAtThree : Prop :=
  ∀ (s : State) (i : Nat), s.init = true → s.params.buttonMask.getLsbD i = true →
    (sampleButtons s ^^^ s.conf).getLsbD i = true →
    ∃ t, exec .tick s = .next t ∧
      (t.line i).count.toNat = ((s.line i).count.toNat + 1) % 4 ∧
      ((t.line i).confirmed ≠ (s.line i).confirmed ↔ (s.line i).count.toNat = 3)

/-- 41_debounce.md R95, with the `flip` of R94 (delta at count 3: the spec's own choice, D7): the new confirmed state is
`(conf XOR flip) AND BUTTON_MASK`, and lines that did not flip keep their confirmed bit. The premise is the invariant
of `EveryStepKeepsTheInvariant` (R25). -/
def Obligations.ConfirmedStateChangesByFlipsInsideTheMask : Prop :=
  ∀ s : State, s.init = true → s.MaskedPlanes →
    ∀ flip : Byte, flip = (sampleButtons s ^^^ s.conf) &&& s.c1 &&& s.c0 →
    ∃ t, exec .tick s = .next t ∧ t.conf = (s.conf ^^^ flip) &&& s.params.buttonMask ∧
      t.conf &&& ~~~ s.params.buttonMask = 0x00#8 ∧
      ∀ i, flip.getLsbD i = false → t.conf.getLsbD i = s.conf.getLsbD i

/-- 41_debounce.md R97: what a TICK does to line `i` depends only on the line's own three bits, its own raw bit and its
own mask bit. -/
def Obligations.LinesAreIndependent : Prop :=
  ∀ (s u : State) (i : Nat), s.init = true → u.init = true →
    s.line i = u.line i → (sampleButtons s).getLsbD i = (sampleButtons u).getLsbD i →
    s.params.buttonMask.getLsbD i = u.params.buttonMask.getLsbD i →
    ∃ t v, exec .tick s = .next t ∧ exec .tick u = .next v ∧ t.line i = v.line i

/-- 41_debounce.md R96 (derived there from R91 to R95): on every line of the mask, the bit-plane TICK is the spec's
sixteen-row table over the counter names of R18. -/
def Obligations.EveryLineFollowsTheSixteenRows : Prop :=
  ∀ (s : State) (i : Nat), s.init = true → s.params.buttonMask.getLsbD i = true →
    ∃ t, exec .tick s = .next t ∧
      t.line i = lineRow (s.line i) (!s.port.btnPin.getLsbD i)

/-- 10_state.md R25, second part (derived there): after a TICK only lines that disagreed have a nonzero count. -/
def Obligations.CountsAfterATickBelongToDisagreeingLines : Prop :=
  ∀ s : State, s.init = true →
    ∃ t, exec .tick s = .next t ∧
      (t.c0 ||| t.c1) &&& ~~~ (sampleButtons s ^^^ s.conf) = 0x00#8

/-! ### BUILD -/

/-- 42_report.md §1 (R110; capacity D16, outputs D26): after a reset and with room for three bytes, BUILD completes:
it writes the report to the host's buffer and to `rpt`, sets `rpt_valid`, drives its outputs, and changes nothing
else. -/
def Obligations.BuildDeliversTheReport : Prop :=
  ∀ s : State, s.init = true → 3 ≤ s.port.outCapacity →
    ∀ x y : Byte,
      x = (if s.port.joyPin.getLsbD 2 = false then 0x9C#8
        else if s.port.joyPin.getLsbD 3 = false then 0x64#8 else 0x00#8) →
      y = (if s.port.joyPin.getLsbD 0 = false then 0x9C#8
        else if s.port.joyPin.getLsbD 1 = false then 0x64#8 else 0x00#8) →
      exec .build s = .next { s with
        mem := s.mem.writeBytes s.port.outBuffer [x, y, s.conf]
        rpt := some ⟨x, y, s.conf⟩
        rptValid := true
        outputs := some ⟨3, false, true⟩ }

/-- 42_report.md R111, R112, with the bytes of R114 (two's complement: the spec's own choice, D10) and the direction bits
of 00_scope.md R14 (D4): UP over DOWN on the Y axis, LEFT over RIGHT on the X axis, 0 when neither direction of an axis
is asserted. -/
def Obligations.AxesFollowDirectionPriority : Prop :=
  ∀ s : State, s.init = true → 3 ≤ s.port.outCapacity →
    ∀ j : Nibble, j = sampleJoystick s →
    ∃ t r, exec .build s = .next t ∧ t.rpt = some r ∧
      r.y = (if j.getLsbD 0 then 0x9C#8 else if j.getLsbD 1 then 0x64#8 else 0x00#8) ∧
      r.x = (if j.getLsbD 2 then 0x9C#8 else if j.getLsbD 3 then 0x64#8 else 0x00#8)

/-- 42_report.md R113: the Button byte is `conf` copied verbatim, bit by bit, in `rpt` and in the host's buffer,
whatever the button pins are at the BUILD and whatever the counters hold. -/
def Obligations.ButtonByteIsTheConfirmedState : Prop :=
  ∀ (s : State) (pins a b : Byte), s.init = true → 3 ≤ s.port.outCapacity →
    ∃ t r, exec .build { s with port := { s.port with btnPin := pins }, c0 := a, c1 := b } = .next t ∧
      t.rpt = some r ∧ r.btn = s.conf ∧ t.mem.read (s.port.outBuffer + 2) = some s.conf ∧
      ∀ i, r.btn.getLsbD i = (s.line i).confirmed

/-- 42_report.md R116, with the output values of R115 (the spec's own choice, D26) and the frame of 20_memory.md R46
(derived there): every BUILD with room for its report (D16) produces a complete report, whatever report was there
before; it writes `rpt`, `rpt_valid`, the three buffer bytes and the outputs, and does not write `c0`, `c1`, `conf` or
`init`. Every byte of host memory outside the three reads as before. -/
def Obligations.EveryBuildIsComplete : Prop :=
  ∀ s : State, s.init = true → 3 ≤ s.port.outCapacity →
    ∃ t r, exec .build s = .next t ∧ t.rpt = some r ∧ t.rptValid = true ∧
      t.mem.read s.port.outBuffer = some r.x ∧
      t.mem.read (s.port.outBuffer + 1) = some r.y ∧
      t.mem.read (s.port.outBuffer + 2) = some r.btn ∧
      (∀ a, a < s.port.outBuffer ∨ s.port.outBuffer + 3 ≤ a → t.mem.read a = s.mem.read a) ∧
      t.outputs = some ⟨3, false, true⟩ ∧
      t.c0 = s.c0 ∧ t.c1 = s.c1 ∧ t.conf = s.conf ∧ t.init = s.init

/-- 42_report.md R122 (derived there): the report is a function of the joystick sample and `conf` alone. -/
def Obligations.ReportDependsOnSampleAndConfirmedStateOnly : Prop :=
  ∀ s u : State, s.init = true → u.init = true →
    3 ≤ s.port.outCapacity → 3 ≤ u.port.outCapacity →
    sampleJoystick s = sampleJoystick u → s.conf = u.conf →
    ∃ t v, exec .build s = .next t ∧ exec .build u = .next v ∧ t.rpt = v.rpt ∧ t.outputs = v.outputs ∧
      ∀ k, k < 3 → t.mem.read (s.port.outBuffer + k) = v.mem.read (u.port.outBuffer + k)

/-- 20_memory.md R44, 60_exceptions.md R134 (the spec's own choice, D16): with room for fewer than three bytes BUILD is
refused with `SHORT_BUFFER`. -/
def Obligations.ShortBufferIsRefused : Prop :=
  ∀ s : State, s.init = true → s.port.outCapacity < 3 → exec .build s = .refused .shortBuffer

/-! ### CONSUME, NOP, reserved words -/

/-- 42_report.md R118, 20_memory.md R48: after CONSUME every field is as before it, for every payload; and what host
memory holds, at `in_buffer` or anywhere, makes no difference to it. -/
def Obligations.ConsumeChangesAndReadsNothing : Prop :=
  ∀ (s : State) (m : Memory) (id addr size : Nat) (ty : ReportType), s.init = true →
    exec .consume s = .next s ∧
    exec .consume { s with
        mem := m
        port := { s.port with reportId := id, processType := ty, inBuffer := addr, inSize := size } } =
      .next { s with
        mem := m
        port := { s.port with reportId := id, processType := ty, inBuffer := addr, inSize := size } }

/-- 42_report.md §3 (R119; NOP is the spec's own command, D31): after a reset NOP completes and changes nothing. -/
def Obligations.NopChangesNothing : Prop :=
  ∀ s : State, s.init = true → exec .nop s = .next s

/-- 30_encoding.md R63 (the spec's own choice, D3): a reserved word is refused in every state, before a reset too. -/
def Obligations.ReservedWordsAreRefused : Prop :=
  ∀ (w : Byte) (s : State), 0x04#8 ≤ w → exec (decodeWord w) s = .refused .reservedCmd

/-- 60_exceptions.md R133 (the spec's own choice, D15): before the first reset each of the four commands faults with
`UNINIT`, whatever the buffer's capacity. -/
def Obligations.CommandsBeforeResetFault : Prop :=
  ∀ s : State, s.init = false →
    exec .nop s = .fault .uninit ∧ exec .tick s = .fault .uninit ∧
    exec .build s = .fault .uninit ∧ exec .consume s = .fault .uninit

/-! ### Frames -/

/-- What a command that completes leaves alone: 41_debounce.md R102 for TICK, 42_report.md R116 and 20_memory.md R46
(derived there) for BUILD, R118 for CONSUME, R119 (the spec's own choice, D31) for NOP. No command writes the parameters
(10_state.md R28, D18), `init` (R29, D15) or a mark; the interface lines and what is still to come are the model's
convention (log 4), and the draw counter is its own field (log 3). Only TICK writes `c0`, `c1` and `conf`, and TICK
writes nothing else: not `rpt`, `rpt_valid`, an output, or a byte of host memory. Only BUILD writes those. So CONSUME
changes no field of R20. -/
def Obligations.CommandsKeepWhatTheyDoNotWrite : Prop :=
  ∀ (i : Instr) (s t : State), exec i s = .next t →
    (t.params = s.params ∧ t.init = s.init ∧ t.fault = s.fault ∧ t.refused = s.refused ∧
      t.port = s.port ∧ t.pending = s.pending ∧ t.draws = s.draws) ∧
    (i ≠ .tick → t.c0 = s.c0 ∧ t.c1 = s.c1 ∧ t.conf = s.conf) ∧
    (i ≠ .build → t.rpt = s.rpt ∧ t.rptValid = s.rptValid ∧ t.outputs = s.outputs ∧
      ∀ a, t.mem.read a = s.mem.read a) ∧
    (i = .build → ∀ a, a < s.port.outBuffer ∨ s.port.outBuffer + 3 ≤ a →
      t.mem.read a = s.mem.read a)

/-- 10_state.md §1, the 'written by' column of R20 (with R28; D8, D9, D15, D18), and 70_reset_and_hazards.md §3: over a
whole step, the planes change only by TICK, a reset or a power loss; `rpt` and `rpt_valid` only by BUILD, a reset or a
power loss; `init` only by a reset or a power loss; the parameters and the marks not at all.
That the state holds while nothing is pending is the model's convention (log 7), and that host memory stays as it is
in a step without BUILD is its choice (log 16). -/
def Obligations.FieldsChangeOnlyByTheirWriters : Prop :=
  ∀ s t : State, step s = .next t →
    t.params = s.params ∧ t.fault = s.fault ∧ t.refused = s.refused ∧
    (∀ r rest, s.pending = .drive r :: rest → r.rst = false →
      t.init = s.init ∧
      (r.cmd ≠ 0x01#8 → t.c0 = s.c0 ∧ t.c1 = s.c1 ∧ t.conf = s.conf) ∧
      (r.cmd ≠ 0x02#8 → t.rpt = s.rpt ∧ t.rptValid = s.rptValid ∧ t.mem = s.mem)) ∧
    (∀ e rest, s.pending = .lifecycle e :: rest → t = { s with pending := rest }) ∧
    (s.pending = [] → t = s)

/-! ### Reset, power, marks -/

/-- 70_reset_and_hazards.md §1 (R150, R152; D8, D9, D21): a reset step writes the planes, `rpt`, `rpt_valid` and `init`,
and nothing else is checked or run, whatever the command word and before or after another reset. -/
def Obligations.ResetStepStartsTheBlock : Prop :=
  ∀ (s : State) (r : Request) (rest : List Event),
    s.marked = false → s.pending = .drive r :: rest → r.rst = true →
    step s = .next { s with
      c0 := 0x00#8, c1 := 0x00#8, conf := 0x00#8, rpt := none, rptValid := false, init := true
      port := r, pending := rest, outputs := none }

/-- 10_state.md §1, §2 (R20 to R23, R26, R29; D8, D9, D15) and 00_scope.md R6 (D24): the values after reset; that no
mark stands there is DEDUCED (log 1). -/
def Obligations.StateAfterReset : Prop :=
  State.reset.c0 = 0x00#8 ∧ State.reset.c1 = 0x00#8 ∧ State.reset.conf = 0x00#8 ∧
  State.reset.rpt = none ∧ State.reset.rptValid = false ∧ State.reset.init = true ∧
  State.reset.fault = none ∧ State.reset.refused = none ∧ State.reset.outputs = none ∧
  State.reset.params.buttonMask = 0xFF#8

/-- The state after reset meets the invariant. -/
def Obligations.ResetMeetsTheInvariant : Prop := State.reset.Inv

/-- 10_state.md R25, first part (derived there), R26, R29, 42_report.md R114, R115, R121, 60_exceptions.md R134: every
step keeps the invariant, from every state that meets it: host memory in canonical form, planes and Button byte inside
the mask, legal axis bytes, `rpt_valid` exactly while `rpt` holds a value, BUILD's outputs, at most one mark. -/
def Obligations.EveryStepKeepsTheInvariant : Prop :=
  ∀ s t : State, s.Inv → step s = .next t → t.Inv

/-- 60_exceptions.md §1 (R130, R131; D30): a step that faults or is refused leaves the state as it was but for the mark,
and the marked state is quiescent: it has no further step, a reset included, and stays as it is. -/
def Obligations.StoppedStepsLeaveOnlyAStickyMark : Prop :=
  ∀ s : State,
    (∀ f, s.marked = false → step s = .fault f →
      advance s = { s with fault := some f } ∧ (advance s).marked = true) ∧
    (∀ f, s.marked = false → step s = .refused f →
      advance s = { s with refused := some f } ∧ (advance s).marked = true) ∧
    (s.marked = true → advance s = s ∧ ∀ t, step s ≠ .next t)

/-- 60_exceptions.md R134 (D3, D15, D16; the place of the overlap check is the model's choice, log 8): the first mark
that applies, in order, for every driven step of an unmarked state; where none applies the step completes. -/
def Obligations.MarksFollowTheCheckOrder : Prop :=
  ∀ (s : State) (r : Request) (rest : List Event),
    s.marked = false → s.pending = .drive r :: rest →
    (r.rst = true → ∃ t, step s = .next t ∧ t.init = true) ∧
    (r.rst = false → 0x04#8 ≤ r.cmd → step s = .refused .reservedCmd) ∧
    (r.rst = false → r.cmd < 0x04#8 → s.init = false → step s = .fault .uninit) ∧
    (r.rst = false → r.cmd = 0x02#8 → s.init = true → r.outCapacity < 3 →
      step s = .refused .shortBuffer) ∧
    (r.rst = false → r.cmd < 0x04#8 → s.init = true → (r.cmd = 0x02#8 → 3 ≤ r.outCapacity) →
      r.overlapping = true → step s = .refused .overlap) ∧
    (r.rst = false → r.cmd < 0x04#8 → s.init = true → (r.cmd = 0x02#8 → 3 ≤ r.outCapacity) →
      r.overlapping = false → ∃ t, step s = .next t)

/-- 60_exceptions.md R146, R148, 70_reset_and_hazards.md R151 (D22, D28; an empty queue is the model's convention,
log 7): while nothing is issued the state holds, a lifecycle event changes nothing of the block, and after a power
loss no reset has been applied and there is no report. -/
def Obligations.QuietStepsAndPowerLoss : Prop :=
  ∀ s : State, s.marked = false →
    (s.pending = [] → step s = .next s) ∧
    (∀ e rest, s.pending = .lifecycle e :: rest → step s = .next { s with pending := rest }) ∧
    (∀ rest, s.pending = .powerLoss :: rest → ∃ t, step s = .next t ∧ t.init = false ∧
      t.rpt = none ∧ t.rptValid = false ∧ t.outputs = none ∧ t.pending = rest ∧ t.params = s.params)

/-- 10_state.md R26 (D9): reading `rpt` while `rpt_valid = 0` faults; otherwise it gives the report last built. -/
def Obligations.ReportIsObservedOnlyWhenValid : Prop :=
  ∀ s : State,
    (s.rptValid = false → s.observeReport = .error .reportHasNoValue) ∧
    (∀ r, s.rptValid = true → s.rpt = some r → s.observeReport = .ok r)

/-! ### Sampling and what is not read -/

/-- 40_sampler.md R80: `SampleButtons()` is `(NOT btn_pin) AND BUTTON_MASK`, with the corner cases and the example. -/
def Obligations.ButtonSampleIsActiveLowAndMasked : Prop :=
  ∀ s : State,
    sampleButtons s = ~~~ s.port.btnPin &&& s.params.buttonMask ∧
    (∀ i, s.params.buttonMask.getLsbD i = true →
      (sampleButtons s).getLsbD i = !s.port.btnPin.getLsbD i) ∧
    (s.port.btnPin = 0xFF#8 → sampleButtons s = 0x00#8) ∧
    (s.port.btnPin = 0x00#8 → sampleButtons s = s.params.buttonMask) ∧
    (∀ i, s.params.buttonMask.getLsbD i = false → (sampleButtons s).getLsbD i = false) ∧
    (s.port.btnPin = 0xFE#8 → s.params.buttonMask = 0xFF#8 → sampleButtons s = 0x01#8)

/-- 40_sampler.md R82 (the canonical order is the spec's own choice, D4): each joystick line, active low, and the
corner cases and the example. -/
def Obligations.JoystickSampleIsActiveLow : Prop :=
  ∀ s : State,
    (∀ d, asserted (sampleJoystick s) d = !s.port.joyPin.getLsbD (directionBit d)) ∧
    (s.port.joyPin = 0xF#4 → sampleJoystick s = 0x0#4) ∧
    (s.port.joyPin = 0x0#4 → sampleJoystick s = 0xF#4) ∧
    (s.port.joyPin = 0x4#4 → sampleJoystick s = 0xB#4)

/-- 40_sampler.md R85 (D11): TICK does not sample the joystick, BUILD does not sample the buttons, and CONSUME and NOP
sample neither: changing those pins changes nothing of the outcome but the pins themselves. -/
def Obligations.PinsAreReadOnlyWhereSampled : Prop :=
  ∀ (s : State) (b : Byte) (j : Nibble),
    exec .tick (s.withJoystickPins j) = onNext (·.withJoystickPins j) (exec .tick s) ∧
    exec .build (s.withButtonPins b) = onNext (·.withButtonPins b) (exec .build s) ∧
    exec .consume ((s.withJoystickPins j).withButtonPins b) =
      onNext (fun t => (t.withJoystickPins j).withButtonPins b) (exec .consume s) ∧
    exec .nop ((s.withJoystickPins j).withButtonPins b) =
      onNext (fun t => (t.withJoystickPins j).withButtonPins b) (exec .nop s)

/-- 10_state.md R30, R32 (D26, D29): no driven step reads the outputs of an earlier one, and nothing that BUILD,
CONSUME or NOP does depends on the counter bits. -/
def Obligations.OutputsAndCountersAreHidden : Prop :=
  (∀ (s : State) (o : Option Outputs) (r : Request) (rest : List Event),
    s.pending = .drive r :: rest → step { s with outputs := o } = step s) ∧
  ∀ (s : State) (i : Instr) (a b : Byte), i ≠ .tick →
    exec i { s with c0 := a, c1 := b } = onNext (fun t => { t with c0 := a, c1 := b }) (exec i s)

/-- 10_state.md R29 (D15): what the planes hold before the first reset never reaches a state after it, and never
changes how a run stops. -/
def Obligations.PlanesBeforeResetNeverLeak : Prop :=
  ∀ (n : Nat) (s : State) (p : Planes), s.init = false →
    (∀ t, runFor n s = .next t → t.init = true → runFor n (s.setPlanes p) = .next t) ∧
    (∀ f, runFor n s = .fault f → runFor n (s.setPlanes p) = .fault f) ∧
    (∀ f, runFor n s = .refused f → runFor n (s.setPlanes p) = .refused f)

/-! ### Runs -/

/-- 20_memory.md R51: commands take effect in the order they are issued: a run of `m + n` steps is the run of `n` from
where the run of `m` ends, and what is issued later makes no difference to what was issued before. -/
def Obligations.CommandsTakeEffectInIssueOrder : Prop :=
  (∀ (m n : Nat) (s t : State), runFor m s = .next t → runFor (m + n) s = runFor n t) ∧
  ∀ (es later : List Event) (s : State),
    runFor es.length { s with pending := es ++ later } =
      onNext (fun t => { t with pending := later }) (runFor es.length { s with pending := es })

/-- 60_exceptions.md R132, R142 (D15, D16, D21): while the host keeps its contract no step stops. -/
def Obligations.HostWithinTheContractIsNeverStopped : Prop :=
  ∀ (n : Nat) (s : State), s.marked = false → s.init = true →
    (∀ e ∈ s.pending, e.keepsContract = true) →
    ∃ t, runFor n s = .next t ∧ t.pending = s.pending.drop n ∧ t.init = true ∧ t.marked = false

/-- 41_debounce.md R98 (derived there from R92 to R94; D6, D7): along every run from a state whose line has count 0, a
reset state among them, with whatever else happens between the TICKs: the count is the run of consecutive disagreeing
TICKs modulo 4, and the latest TICK flipped the line exactly when that run is 4. -/
def Obligations.CountIsTheRunOfDisagreeingTicks : Prop :=
  ∀ (i n : Nat) (s t : State) (h : List LineTick),
    s.init = true → s.params.buttonMask.getLsbD i = true → (s.line i).count = .stable →
    runWatching i n s [] = some (t, h) → t.init = true →
    (t.line i).count.toNat = disagreeingRun h % 4 ∧
    ∀ e h', h = e :: h' → (e.flip = true ↔ disagreeingRun h = 4)

/-- 41_debounce.md R100, second part (derived there; D7), 00_scope.md R16: a raw value held against the confirmed one
flips the line on its 4th TICK and not again; BUILD, CONSUME, NOP and lifecycle events in between count for nothing. -/
def Obligations.HeldDisagreementFlipsOnceOnTheFourthTick : Prop :=
  ∀ (i : Nat) (s : State) (es later : List Event),
    s.marked = false → s.init = true → s.params.buttonMask.getLsbD i = true →
    (s.line i).count = .stable → s.pending = es ++ later →
    (∀ e ∈ es, e.keepsRunning = true) →
    (∀ e ∈ es, e.ticks = true → e.raw s.params.buttonMask i = !(s.line i).confirmed) →
    ∃ t, runFor es.length s = .next t ∧
      (t.line i).count.toNat = (if tickCount es < 4 then tickCount es else 0) ∧
      (t.line i).confirmed = (if tickCount es < 4 then (s.line i).confirmed else !(s.line i).confirmed)

/-- 41_debounce.md R100, first part (derived there): a line whose raw value agrees with its confirmed bit on every TICK
keeps the bit, whatever its count was. -/
def Obligations.AgreeingLineIsStable : Prop :=
  ∀ (i : Nat) (s : State) (es later : List Event),
    s.marked = false → s.init = true → s.params.buttonMask.getLsbD i = true →
    s.pending = es ++ later → (∀ e ∈ es, e.keepsRunning = true) →
    (∀ e ∈ es, e.ticks = true → e.raw s.params.buttonMask i = (s.line i).confirmed) →
    ∃ t, runFor es.length s = .next t ∧ (t.line i).confirmed = (s.line i).confirmed ∧
      (0 < tickCount es → (t.line i).count = .stable)

/-- 41_debounce.md R99, R101 (derived there): from count 0, which is where a flip or an agreeing tick leaves a line,
fewer than four TICKs never change its confirmed bit, whatever the pins do; so a glitch of one to three ticks is
rejected, and two flips of a line are at least four ticks apart. If the last of these TICKs agrees, the count is 0. -/
def Obligations.FewerThanFourTicksNeverFlip : Prop :=
  ∀ (i : Nat) (s : State) (es later : List Event),
    s.marked = false → s.init = true → s.params.buttonMask.getLsbD i = true →
    (s.line i).count = .stable → s.pending = es ++ later →
    (∀ e ∈ es, e.keepsRunning = true) → tickCount es < 4 →
    ∃ t, runFor es.length s = .next t ∧ (t.line i).confirmed = (s.line i).confirmed ∧
      ∀ r later', later = .drive r :: later' → r.keepsContract = true → r.ticks = true →
        (Event.drive r).raw s.params.buttonMask i = (s.line i).confirmed →
        ∃ u, step t = .next u ∧ u.line i = ⟨.stable, (s.line i).confirmed⟩

/-- 70_reset_and_hazards.md R154, R159 (derived there; D7, D8): a line held pressed from a reset on is reported released
until the 4th TICK after the reset, and pressed from then on. -/
def Obligations.PressHeldFromResetIsReportedFromTheFourthTick : Prop :=
  ∀ (i : Nat) (s : State) (reset build : Request) (es later : List Event),
    s.marked = false → s.params.buttonMask.getLsbD i = true →
    reset.rst = true → build.keepsContract = true → build.cmd = 0x02#8 →
    s.pending = .drive reset :: es ++ .drive build :: later →
    (∀ e ∈ es, e.keepsRunning = true) →
    (∀ e ∈ es, e.ticks = true → e.raw s.params.buttonMask i = true) →
    ∃ t r, runFor (es.length + 2) s = .next t ∧ t.rpt = some r ∧
      r.btn.getLsbD i = decide (4 ≤ tickCount es)

/-- 41_debounce.md R98 (derived there from R92 to R94; D6, D7), one step at a time: on a line of the mask, if the count
is the run of disagreeing TICKs since the line last agreed or flipped, then after any step that completes it is that
run again, of the history with the step in it; and a TICK flips the line exactly when it makes R98's `r_k` 4. -/
def Obligations.EveryStepKeepsTheCountOfTheHistory : Prop :=
  ∀ (i : Nat) (s t : State) (h : List LineTick),
    s.params.buttonMask.getLsbD i = true → s.CountMatches i h → step s = .next t →
    t.CountMatches i (extendHistory i s t h) ∧
    ∀ e, extendHistory i s t h = e :: h → (e.flip = true ↔ disagreeingRun (e :: h) = 4)

/-- 41_debounce.md R98 (derived there), 70_reset_and_hazards.md R150 (D8): after reset every line's count is that of the
empty history. -/
def Obligations.ResetStartsTheHistory : Prop := ∀ i, State.reset.CountMatches i []
end

