-- ==== Sys2Proof/Laws/Decode.lean ====
section
/-! SUPPORT. Decoding and encoding one word. -/

namespace Sys2Proof

/-- Everything a decoded word can be. -/
theorem decodeWord_cases (w : Byte) :
    (w = 0x00#8 ∧ decodeWord w = .nop) ∨ (w = 0x01#8 ∧ decodeWord w = .tick) ∨
    (w = 0x02#8 ∧ decodeWord w = .build) ∨ (w = 0x03#8 ∧ decodeWord w = .consume) ∨
    (0x04#8 ≤ w ∧ decodeWord w = .reserved w) := by
  unfold decodeWord
  split
  · exact .inl ⟨‹_›, rfl⟩
  · split
    · exact .inr (.inl ⟨‹_›, rfl⟩)
    · split
      · exact .inr (.inr (.inl ⟨‹_›, rfl⟩))
      · split
        · exact .inr (.inr (.inr (.inl ⟨‹_›, rfl⟩)))
        · refine .inr (.inr (.inr (.inr ⟨?_, rfl⟩)))
          bv_omega

theorem encodeWord_decodeWord (w : Byte) : encodeWord (decodeWord w) = w := by
  rcases decodeWord_cases w with ⟨rfl, h⟩ | ⟨rfl, h⟩ | ⟨rfl, h⟩ | ⟨rfl, h⟩ | ⟨_, h⟩ <;>
    rw [h] <;> rfl

theorem decodeWord_wf (w : Byte) : (decodeWord w).wf = true := by
  rcases decodeWord_cases w with ⟨_, h⟩ | ⟨_, h⟩ | ⟨_, h⟩ | ⟨_, h⟩ | ⟨hw, h⟩ <;> rw [h]
  all_goals first | rfl | exact decide_eq_true hw

theorem decodeWord_reserved (w : Byte) (h : 0x04#8 ≤ w) : decodeWord w = .reserved w := by
  rcases decodeWord_cases w with ⟨rfl, _⟩ | ⟨rfl, _⟩ | ⟨rfl, _⟩ | ⟨rfl, _⟩ | ⟨_, e⟩
  · exact absurd h (by decide)
  · exact absurd h (by decide)
  · exact absurd h (by decide)
  · exact absurd h (by decide)
  · exact e

end Sys2Proof
end

