-- ==== Sys2Proof/Laws/State.lean ====
section
/-! SUPPORT. What each update of the state does to each field. -/

namespace Sys2Proof.Machine

variable (s : State)

/-! ### `State.setPlanes` -/

@[simp] theorem State.setPlanes_params (p : Planes) :
    (s.setPlanes p).params = s.params := rfl
@[simp] theorem State.setPlanes_c0 (p : Planes) :
    (s.setPlanes p).c0 = p.c0 := rfl
@[simp] theorem State.setPlanes_c1 (p : Planes) :
    (s.setPlanes p).c1 = p.c1 := rfl
@[simp] theorem State.setPlanes_conf (p : Planes) :
    (s.setPlanes p).conf = p.conf := rfl
@[simp] theorem State.setPlanes_rpt (p : Planes) :
    (s.setPlanes p).rpt = s.rpt := rfl
@[simp] theorem State.setPlanes_rptValid (p : Planes) :
    (s.setPlanes p).rptValid = s.rptValid := rfl
@[simp] theorem State.setPlanes_init (p : Planes) :
    (s.setPlanes p).init = s.init := rfl
@[simp] theorem State.setPlanes_fault (p : Planes) :
    (s.setPlanes p).fault = s.fault := rfl
@[simp] theorem State.setPlanes_refused (p : Planes) :
    (s.setPlanes p).refused = s.refused := rfl
@[simp] theorem State.setPlanes_outputs (p : Planes) :
    (s.setPlanes p).outputs = s.outputs := rfl
@[simp] theorem State.setPlanes_mem (p : Planes) :
    (s.setPlanes p).mem = s.mem := rfl
@[simp] theorem State.setPlanes_port (p : Planes) :
    (s.setPlanes p).port = s.port := rfl
@[simp] theorem State.setPlanes_pending (p : Planes) :
    (s.setPlanes p).pending = s.pending := rfl
@[simp] theorem State.setPlanes_draws (p : Planes) :
    (s.setPlanes p).draws = s.draws := rfl

/-! ### `State.storeReport` -/

@[simp] theorem State.storeReport_params (r : Report) :
    (s.storeReport r).params = s.params := rfl
@[simp] theorem State.storeReport_c0 (r : Report) :
    (s.storeReport r).c0 = s.c0 := rfl
@[simp] theorem State.storeReport_c1 (r : Report) :
    (s.storeReport r).c1 = s.c1 := rfl
@[simp] theorem State.storeReport_conf (r : Report) :
    (s.storeReport r).conf = s.conf := rfl
@[simp] theorem State.storeReport_rpt (r : Report) :
    (s.storeReport r).rpt = some r := rfl
@[simp] theorem State.storeReport_rptValid (r : Report) :
    (s.storeReport r).rptValid = true := rfl
@[simp] theorem State.storeReport_init (r : Report) :
    (s.storeReport r).init = s.init := rfl
@[simp] theorem State.storeReport_fault (r : Report) :
    (s.storeReport r).fault = s.fault := rfl
@[simp] theorem State.storeReport_refused (r : Report) :
    (s.storeReport r).refused = s.refused := rfl
@[simp] theorem State.storeReport_outputs (r : Report) :
    (s.storeReport r).outputs = s.outputs := rfl
@[simp] theorem State.storeReport_mem (r : Report) :
    (s.storeReport r).mem = s.mem := rfl
@[simp] theorem State.storeReport_port (r : Report) :
    (s.storeReport r).port = s.port := rfl
@[simp] theorem State.storeReport_pending (r : Report) :
    (s.storeReport r).pending = s.pending := rfl
@[simp] theorem State.storeReport_draws (r : Report) :
    (s.storeReport r).draws = s.draws := rfl

/-! ### `State.writeOutBuffer` -/

@[simp] theorem State.writeOutBuffer_params (r : Report) :
    (s.writeOutBuffer r).params = s.params := rfl
@[simp] theorem State.writeOutBuffer_c0 (r : Report) :
    (s.writeOutBuffer r).c0 = s.c0 := rfl
@[simp] theorem State.writeOutBuffer_c1 (r : Report) :
    (s.writeOutBuffer r).c1 = s.c1 := rfl
@[simp] theorem State.writeOutBuffer_conf (r : Report) :
    (s.writeOutBuffer r).conf = s.conf := rfl
@[simp] theorem State.writeOutBuffer_rpt (r : Report) :
    (s.writeOutBuffer r).rpt = s.rpt := rfl
@[simp] theorem State.writeOutBuffer_rptValid (r : Report) :
    (s.writeOutBuffer r).rptValid = s.rptValid := rfl
@[simp] theorem State.writeOutBuffer_init (r : Report) :
    (s.writeOutBuffer r).init = s.init := rfl
@[simp] theorem State.writeOutBuffer_fault (r : Report) :
    (s.writeOutBuffer r).fault = s.fault := rfl
@[simp] theorem State.writeOutBuffer_refused (r : Report) :
    (s.writeOutBuffer r).refused = s.refused := rfl
@[simp] theorem State.writeOutBuffer_outputs (r : Report) :
    (s.writeOutBuffer r).outputs = s.outputs := rfl
@[simp] theorem State.writeOutBuffer_mem (r : Report) :
    (s.writeOutBuffer r).mem = s.mem.writeBytes s.port.outBuffer r.bytes := rfl
@[simp] theorem State.writeOutBuffer_port (r : Report) :
    (s.writeOutBuffer r).port = s.port := rfl
@[simp] theorem State.writeOutBuffer_pending (r : Report) :
    (s.writeOutBuffer r).pending = s.pending := rfl
@[simp] theorem State.writeOutBuffer_draws (r : Report) :
    (s.writeOutBuffer r).draws = s.draws := rfl

/-! ### `State.driveOutputs` -/

@[simp] theorem State.driveOutputs_params (o : Outputs) :
    (s.driveOutputs o).params = s.params := rfl
@[simp] theorem State.driveOutputs_c0 (o : Outputs) :
    (s.driveOutputs o).c0 = s.c0 := rfl
@[simp] theorem State.driveOutputs_c1 (o : Outputs) :
    (s.driveOutputs o).c1 = s.c1 := rfl
@[simp] theorem State.driveOutputs_conf (o : Outputs) :
    (s.driveOutputs o).conf = s.conf := rfl
@[simp] theorem State.driveOutputs_rpt (o : Outputs) :
    (s.driveOutputs o).rpt = s.rpt := rfl
@[simp] theorem State.driveOutputs_rptValid (o : Outputs) :
    (s.driveOutputs o).rptValid = s.rptValid := rfl
@[simp] theorem State.driveOutputs_init (o : Outputs) :
    (s.driveOutputs o).init = s.init := rfl
@[simp] theorem State.driveOutputs_fault (o : Outputs) :
    (s.driveOutputs o).fault = s.fault := rfl
@[simp] theorem State.driveOutputs_refused (o : Outputs) :
    (s.driveOutputs o).refused = s.refused := rfl
@[simp] theorem State.driveOutputs_outputs (o : Outputs) :
    (s.driveOutputs o).outputs = some o := rfl
@[simp] theorem State.driveOutputs_mem (o : Outputs) :
    (s.driveOutputs o).mem = s.mem := rfl
@[simp] theorem State.driveOutputs_port (o : Outputs) :
    (s.driveOutputs o).port = s.port := rfl
@[simp] theorem State.driveOutputs_pending (o : Outputs) :
    (s.driveOutputs o).pending = s.pending := rfl
@[simp] theorem State.driveOutputs_draws (o : Outputs) :
    (s.driveOutputs o).draws = s.draws := rfl

/-! ### `State.applyReset` -/

@[simp] theorem State.applyReset_params :
    (s.applyReset).params = s.params := rfl
@[simp] theorem State.applyReset_c0 :
    (s.applyReset).c0 = 0x00#8 := rfl
@[simp] theorem State.applyReset_c1 :
    (s.applyReset).c1 = 0x00#8 := rfl
@[simp] theorem State.applyReset_conf :
    (s.applyReset).conf = 0x00#8 := rfl
@[simp] theorem State.applyReset_rpt :
    (s.applyReset).rpt = none := rfl
@[simp] theorem State.applyReset_rptValid :
    (s.applyReset).rptValid = false := rfl
@[simp] theorem State.applyReset_init :
    (s.applyReset).init = true := rfl
@[simp] theorem State.applyReset_fault :
    (s.applyReset).fault = s.fault := rfl
@[simp] theorem State.applyReset_refused :
    (s.applyReset).refused = s.refused := rfl
@[simp] theorem State.applyReset_outputs :
    (s.applyReset).outputs = s.outputs := rfl
@[simp] theorem State.applyReset_mem :
    (s.applyReset).mem = s.mem := rfl
@[simp] theorem State.applyReset_port :
    (s.applyReset).port = s.port := rfl
@[simp] theorem State.applyReset_pending :
    (s.applyReset).pending = s.pending := rfl
@[simp] theorem State.applyReset_draws :
    (s.applyReset).draws = s.draws := rfl

/-! ### `State.losePower` -/

@[simp] theorem State.losePower_params :
    (s.losePower).params = s.params := rfl
@[simp] theorem State.losePower_c0 :
    (s.losePower).c0 = Config.lostPlane s.draws := rfl
@[simp] theorem State.losePower_c1 :
    (s.losePower).c1 = Config.lostPlane (s.draws + 1) := rfl
@[simp] theorem State.losePower_conf :
    (s.losePower).conf = Config.lostPlane (s.draws + 2) := rfl
@[simp] theorem State.losePower_rpt :
    (s.losePower).rpt = none := rfl
@[simp] theorem State.losePower_rptValid :
    (s.losePower).rptValid = false := rfl
@[simp] theorem State.losePower_init :
    (s.losePower).init = false := rfl
@[simp] theorem State.losePower_fault :
    (s.losePower).fault = s.fault := rfl
@[simp] theorem State.losePower_refused :
    (s.losePower).refused = s.refused := rfl
@[simp] theorem State.losePower_outputs :
    (s.losePower).outputs = none := rfl
@[simp] theorem State.losePower_mem :
    (s.losePower).mem = [] := rfl
@[simp] theorem State.losePower_port :
    (s.losePower).port = s.port := rfl
@[simp] theorem State.losePower_pending :
    (s.losePower).pending = s.pending := rfl
@[simp] theorem State.losePower_draws :
    (s.losePower).draws = s.draws + 3 := rfl

/-! ### `State.present` -/

@[simp] theorem State.present_params (r : Request) (rest : List Event) :
    (s.present r rest).params = s.params := rfl
@[simp] theorem State.present_c0 (r : Request) (rest : List Event) :
    (s.present r rest).c0 = s.c0 := rfl
@[simp] theorem State.present_c1 (r : Request) (rest : List Event) :
    (s.present r rest).c1 = s.c1 := rfl
@[simp] theorem State.present_conf (r : Request) (rest : List Event) :
    (s.present r rest).conf = s.conf := rfl
@[simp] theorem State.present_rpt (r : Request) (rest : List Event) :
    (s.present r rest).rpt = s.rpt := rfl
@[simp] theorem State.present_rptValid (r : Request) (rest : List Event) :
    (s.present r rest).rptValid = s.rptValid := rfl
@[simp] theorem State.present_init (r : Request) (rest : List Event) :
    (s.present r rest).init = s.init := rfl
@[simp] theorem State.present_fault (r : Request) (rest : List Event) :
    (s.present r rest).fault = s.fault := rfl
@[simp] theorem State.present_refused (r : Request) (rest : List Event) :
    (s.present r rest).refused = s.refused := rfl
@[simp] theorem State.present_outputs (r : Request) (rest : List Event) :
    (s.present r rest).outputs = none := rfl
@[simp] theorem State.present_mem (r : Request) (rest : List Event) :
    (s.present r rest).mem = s.mem := rfl
@[simp] theorem State.present_port (r : Request) (rest : List Event) :
    (s.present r rest).port = r := rfl
@[simp] theorem State.present_pending (r : Request) (rest : List Event) :
    (s.present r rest).pending = rest := rfl
@[simp] theorem State.present_draws (r : Request) (rest : List Event) :
    (s.present r rest).draws = s.draws := rfl

/-! ### `State.passEvent` -/

@[simp] theorem State.passEvent_params (rest : List Event) :
    (s.passEvent rest).params = s.params := rfl
@[simp] theorem State.passEvent_c0 (rest : List Event) :
    (s.passEvent rest).c0 = s.c0 := rfl
@[simp] theorem State.passEvent_c1 (rest : List Event) :
    (s.passEvent rest).c1 = s.c1 := rfl
@[simp] theorem State.passEvent_conf (rest : List Event) :
    (s.passEvent rest).conf = s.conf := rfl
@[simp] theorem State.passEvent_rpt (rest : List Event) :
    (s.passEvent rest).rpt = s.rpt := rfl
@[simp] theorem State.passEvent_rptValid (rest : List Event) :
    (s.passEvent rest).rptValid = s.rptValid := rfl
@[simp] theorem State.passEvent_init (rest : List Event) :
    (s.passEvent rest).init = s.init := rfl
@[simp] theorem State.passEvent_fault (rest : List Event) :
    (s.passEvent rest).fault = s.fault := rfl
@[simp] theorem State.passEvent_refused (rest : List Event) :
    (s.passEvent rest).refused = s.refused := rfl
@[simp] theorem State.passEvent_outputs (rest : List Event) :
    (s.passEvent rest).outputs = s.outputs := rfl
@[simp] theorem State.passEvent_mem (rest : List Event) :
    (s.passEvent rest).mem = s.mem := rfl
@[simp] theorem State.passEvent_port (rest : List Event) :
    (s.passEvent rest).port = s.port := rfl
@[simp] theorem State.passEvent_pending (rest : List Event) :
    (s.passEvent rest).pending = rest := rfl
@[simp] theorem State.passEvent_draws (rest : List Event) :
    (s.passEvent rest).draws = s.draws := rfl

/-! ### `State.issueWord` -/

@[simp] theorem State.issueWord_params (w : Byte) :
    (s.issueWord w).params = s.params := rfl
@[simp] theorem State.issueWord_c0 (w : Byte) :
    (s.issueWord w).c0 = s.c0 := rfl
@[simp] theorem State.issueWord_c1 (w : Byte) :
    (s.issueWord w).c1 = s.c1 := rfl
@[simp] theorem State.issueWord_conf (w : Byte) :
    (s.issueWord w).conf = s.conf := rfl
@[simp] theorem State.issueWord_rpt (w : Byte) :
    (s.issueWord w).rpt = s.rpt := rfl
@[simp] theorem State.issueWord_rptValid (w : Byte) :
    (s.issueWord w).rptValid = s.rptValid := rfl
@[simp] theorem State.issueWord_init (w : Byte) :
    (s.issueWord w).init = s.init := rfl
@[simp] theorem State.issueWord_fault (w : Byte) :
    (s.issueWord w).fault = s.fault := rfl
@[simp] theorem State.issueWord_refused (w : Byte) :
    (s.issueWord w).refused = s.refused := rfl
@[simp] theorem State.issueWord_outputs (w : Byte) :
    (s.issueWord w).outputs = s.outputs := rfl
@[simp] theorem State.issueWord_mem (w : Byte) :
    (s.issueWord w).mem = s.mem := rfl
@[simp] theorem State.issueWord_port (w : Byte) :
    (s.issueWord w).port = s.port := rfl
@[simp] theorem State.issueWord_pending (w : Byte) :
    (s.issueWord w).pending = Event.drive (s.port.issuing w) :: s.pending := rfl
@[simp] theorem State.issueWord_draws (w : Byte) :
    (s.issueWord w).draws = s.draws := rfl

/-! ### `State.deliver` -/

@[simp] theorem State.deliver_params (r : Report) :
    (s.deliver r).params = s.params := rfl
@[simp] theorem State.deliver_c0 (r : Report) :
    (s.deliver r).c0 = s.c0 := rfl
@[simp] theorem State.deliver_c1 (r : Report) :
    (s.deliver r).c1 = s.c1 := rfl
@[simp] theorem State.deliver_conf (r : Report) :
    (s.deliver r).conf = s.conf := rfl
@[simp] theorem State.deliver_rpt (r : Report) :
    (s.deliver r).rpt = some r := rfl
@[simp] theorem State.deliver_rptValid (r : Report) :
    (s.deliver r).rptValid = true := rfl
@[simp] theorem State.deliver_init (r : Report) :
    (s.deliver r).init = s.init := rfl
@[simp] theorem State.deliver_fault (r : Report) :
    (s.deliver r).fault = s.fault := rfl
@[simp] theorem State.deliver_refused (r : Report) :
    (s.deliver r).refused = s.refused := rfl
@[simp] theorem State.deliver_outputs (r : Report) :
    (s.deliver r).outputs = some buildOutputs := rfl
@[simp] theorem State.deliver_mem (r : Report) :
    (s.deliver r).mem = s.mem.writeBytes s.port.outBuffer r.bytes := rfl
@[simp] theorem State.deliver_port (r : Report) :
    (s.deliver r).port = s.port := rfl
@[simp] theorem State.deliver_pending (r : Report) :
    (s.deliver r).pending = s.pending := rfl
@[simp] theorem State.deliver_draws (r : Report) :
    (s.deliver r).draws = s.draws := rfl

end Sys2Proof.Machine
end

