-- ==== Sys2Proof/Laws/Lines.lean ====
section
/-! SUPPORT. The debounce step seen on one line. -/

namespace Sys2Proof.Machine

theorem debounceStep_c0_bit (c0 c1 conf raw mask : Byte) (i : Nat) :
    (debounceStep c0 c1 conf raw mask).c0.getLsbD i =
      ((raw.getLsbD i ^^ conf.getLsbD i) && !c0.getLsbD i) := by
  by_cases h : i < 8
  · simp [debounceStep, changeDetector, h]
  · have := BitVec.getLsbD_of_ge (debounceStep c0 c1 conf raw mask).c0 i (by omega)
    simp [this, BitVec.getLsbD_of_ge raw i (by omega), BitVec.getLsbD_of_ge conf i (by omega)]

theorem debounceStep_c1_bit (c0 c1 conf raw mask : Byte) (i : Nat) :
    (debounceStep c0 c1 conf raw mask).c1.getLsbD i =
      ((raw.getLsbD i ^^ conf.getLsbD i) && (c1.getLsbD i ^^ c0.getLsbD i)) := by
  simp [debounceStep, changeDetector]

theorem debounceStep_conf_bit (c0 c1 conf raw mask : Byte) (i : Nat) :
    (debounceStep c0 c1 conf raw mask).conf.getLsbD i =
      ((conf.getLsbD i ^^ ((raw.getLsbD i ^^ conf.getLsbD i) && c1.getLsbD i && c0.getLsbD i)) &&
        mask.getLsbD i) := by
  simp [debounceStep, changeDetector]

/-- R96 with the mask: what a tick does to line `i` of any planes. -/
theorem setPlanes_debounceStep_line (s : State) (raw mask : Byte) (i : Nat) :
    (s.setPlanes (debounceStep s.c0 s.c1 s.conf raw mask)).line i =
      ⟨(lineRow (s.line i) (raw.getLsbD i)).count,
        (lineRow (s.line i) (raw.getLsbD i)).confirmed && mask.getLsbD i⟩ := by
  simp only [State.line, State.setPlanes_c0, State.setPlanes_c1, State.setPlanes_conf,
    debounceStep_c0_bit, debounceStep_c1_bit, debounceStep_conf_bit]
  cases s.c0.getLsbD i <;> cases s.c1.getLsbD i <;> cases s.conf.getLsbD i <;>
    cases raw.getLsbD i <;> cases mask.getLsbD i <;> rfl

/-- A line's row as arithmetic: an agreeing line is cleared, a disagreeing one counts modulo 4. -/
theorem lineRow_count (l : Line) (raw : Bool) :
    (lineRow l raw).count.toNat = if raw = l.confirmed then 0 else (l.count.toNat + 1) % 4 := by
  obtain ⟨c, b⟩ := l
  cases c <;> cases b <;> cases raw <;> rfl

/-- A line's row flips its confirmed bit exactly when it disagrees at count 3. -/
theorem lineRow_confirmed (l : Line) (raw : Bool) :
    (lineRow l raw).confirmed = if raw ≠ l.confirmed ∧ l.count.toNat = 3 then raw else l.confirmed := by
  obtain ⟨c, b⟩ := l
  cases c <;> cases b <;> cases raw <;> rfl

theorem LineCount.toNat_lt (c : LineCount) : c.toNat < 4 := by
  cases c <;> decide

theorem LineCount.toNat_eq_zero (c : LineCount) : c.toNat = 0 ↔ c = .stable := by
  cases c <;> simp [LineCount.toNat]

end Sys2Proof.Machine
end

