-- ==== Sys2Proof/Laws/Exec.lean ====
section
/-! SUPPORT. What each command does, once. -/

namespace Sys2Proof.Machine

theorem whenInit_true (s : State) (run : Result) (h : s.init = true) : whenInit s run = run := by
  simp [whenInit, h]

theorem whenInit_false (s : State) (run : Result) (h : s.init = false) :
    whenInit s run = .fault .uninit := by
  simp [whenInit, raiseFault, h]

theorem exec_tick (s : State) (h : s.init = true) : exec .tick s = .next s.ticked :=
  whenInit_true s _ h

theorem exec_nop (s : State) (h : s.init = true) : exec .nop s = .next s := whenInit_true s _ h

theorem exec_consume (s : State) (h : s.init = true) : exec .consume s = .next s := whenInit_true s _ h

theorem exec_build (s : State) (h : s.init = true) (hc : 3 ≤ s.port.outCapacity) :
    exec .build s = .next s.built := by
  have hb : bufferHoldsReport s = true := decide_eq_true hc
  simp [exec, execBuild, whenInit_true s _ h, hb, State.built]

theorem exec_build_short (s : State) (h : s.init = true) (hc : s.port.outCapacity < 3) :
    exec .build s = .refused .shortBuffer := by
  have hb : bufferHoldsReport s = false := decide_eq_false (by simpa [Config.reportSize] using hc)
  simp [exec, execBuild, whenInit_true s _ h, hb, refuse]

theorem exec_reserved (w : Byte) (s : State) : exec (.reserved w) s = .refused .reservedCmd := rfl

/-- Before a reset the four commands fault. -/
theorem exec_uninit (i : Instr) (s : State) (h : s.init = false) (hi : ∀ w, i ≠ .reserved w) :
    exec i s = .fault .uninit := by
  cases i with
  | nop => exact whenInit_false s _ h
  | tick => exact whenInit_false s _ h
  | build => exact whenInit_false s _ h
  | consume => exact whenInit_false s _ h
  | reserved w => exact absurd rfl (hi w)

/-- Everything a command that completes can do. -/
theorem exec_next_cases (i : Instr) (s t : State) (h : exec i s = .next t) :
    s.init = true ∧
      ((i = .nop ∧ t = s) ∨ (i = .consume ∧ t = s) ∨ (i = .tick ∧ t = s.ticked) ∨
        (i = .build ∧ 3 ≤ s.port.outCapacity ∧ t = s.built)) := by
  rcases hs : s.init with _ | _
  · rcases i with _ | _ | _ | _ | w
    case reserved => exact nomatch h
    all_goals
      rw [exec_uninit _ s hs (by intro w hw; cases hw)] at h
      exact nomatch h
  · refine ⟨rfl, ?_⟩
    cases i with
    | nop => rw [exec_nop s hs] at h; cases h; exact .inl ⟨rfl, rfl⟩
    | tick => rw [exec_tick s hs] at h; cases h; exact .inr (.inr (.inl ⟨rfl, rfl⟩))
    | consume => rw [exec_consume s hs] at h; cases h; exact .inr (.inl ⟨rfl, rfl⟩)
    | build =>
      by_cases hc : 3 ≤ s.port.outCapacity
      · rw [exec_build s hs hc] at h; cases h; exact .inr (.inr (.inr ⟨rfl, hc, rfl⟩))
      · rw [exec_build_short s hs (by omega)] at h; exact nomatch h
    | reserved w => exact nomatch h

/-- A TICK seen on one line of the mask. -/
theorem ticked_line (s : State) (i : Nat) (h : s.params.buttonMask.getLsbD i = true) :
    s.ticked.line i = lineRow (s.line i) ((sampleButtons s).getLsbD i) := by
  simp [State.ticked, setPlanes_debounceStep_line, h]

/-- A change of the state that a command does not read is carried through the command. -/
theorem exec_commutes (f : State → State) (i : Instr) (s : State) (hi : (f s).init = s.init)
    (hc : (f s).port.outCapacity = s.port.outCapacity)
    (ht : i = .tick → (f s).ticked = f s.ticked) (hb : i = .build → (f s).built = f s.built) :
    exec i (f s) = onNext f (exec i s) := by
  rcases hs : s.init with _ | _
  · cases i with
    | reserved w => rfl
    | nop => rw [exec_uninit .nop s hs nofun, exec_uninit .nop (f s) (hi.trans hs) nofun]; rfl
    | tick => rw [exec_uninit .tick s hs nofun, exec_uninit .tick (f s) (hi.trans hs) nofun]; rfl
    | build => rw [exec_uninit .build s hs nofun, exec_uninit .build (f s) (hi.trans hs) nofun]; rfl
    | consume => rw [exec_uninit .consume s hs nofun, exec_uninit .consume (f s) (hi.trans hs) nofun]; rfl
  · cases i with
    | reserved w => rfl
    | nop => rw [exec_nop s hs, exec_nop (f s) (hi.trans hs)]; rfl
    | consume => rw [exec_consume s hs, exec_consume (f s) (hi.trans hs)]; rfl
    | tick => rw [exec_tick s hs, exec_tick (f s) (hi.trans hs), ht rfl]; rfl
    | build =>
      by_cases h : 3 ≤ s.port.outCapacity
      · rw [exec_build s hs h, exec_build (f s) (hi.trans hs) (hc ▸ h), hb rfl]; rfl
      · rw [exec_build_short s hs (by omega), exec_build_short (f s) (hi.trans hs) (by omega)]; rfl

end Sys2Proof.Machine
end

