-- ==== Sys2Proof/Laws/PerInstr.lean ====
section
/-! SUPPORT. Statements made per constructor of `Instr`. -/

namespace Sys2Proof.Laws

/-- Family RoundTrip: the word of a well-formed command decodes to it. -/
def RoundTrip.Statement (i : Instr) : Prop := i.wf = true → decodeWord (encodeWord i) = i

theorem RoundTrip.nop : RoundTrip.Statement .nop := fun _ => rfl

theorem RoundTrip.tick : RoundTrip.Statement .tick := fun _ => rfl

theorem RoundTrip.build : RoundTrip.Statement .build := fun _ => rfl

theorem RoundTrip.consume : RoundTrip.Statement .consume := fun _ => rfl

theorem RoundTrip.reserved (word : Byte) : RoundTrip.Statement (.reserved word) :=
  fun h => decodeWord_reserved word (of_decide_eq_true h)

end Sys2Proof.Laws
end

