-- ==== Sys2Proof/Laws/Step.lean ====
section
/-! SUPPORT. What a step of the machine can do, and runs of steps. -/

namespace Sys2Proof.Machine

theorem marked_eq_false_iff (s : State) : s.marked = false ↔ s.fault = none ∧ s.refused = none := by
  simp [State.marked]

/-- An unmarked state runs the host's next event. -/
theorem step_event (s : State) (e : Event) (rest : List Event) (h : s.marked = false)
    (hp : s.pending = e :: rest) : step s = runEvent e rest s := by
  obtain ⟨hf, hr⟩ := (marked_eq_false_iff s).1 h
  simp [step, sequencerStep, hf, hr, hp]

/-- An unmarked state with nothing to do holds. -/
theorem step_idle (s : State) (h : s.marked = false) (hp : s.pending = []) : step s = .next s := by
  obtain ⟨hf, hr⟩ := (marked_eq_false_iff s).1 h
  simp [step, sequencerStep, hf, hr, hp]

/-- A marked state has no next state. -/
theorem step_marked (s t : State) (h : s.marked = true) : step s ≠ .next t := by
  unfold step sequencerStep
  rcases hf : s.fault with _ | f <;> rcases hr : s.refused with _ | r <;>
    simp [State.marked, hf, hr] at h ⊢

theorem runRequest_reset (r : Request) (rest : List Event) (s : State) (h : r.rst = true) :
    runRequest r rest s = .next (s.present r rest).applyReset := by
  simp [runRequest, h]

theorem runRequest_command (r : Request) (rest : List Event) (s : State) (h : r.rst = false) :
    runRequest r rest s = refuseOverlap r (exec (decodeWord r.cmd) (s.present r rest)) := by
  simp [runRequest, h]

/-- A command completes only if it does not overlap, and then as `exec` has it. -/
theorem refuseOverlap_next (r : Request) (o : Result) (t : State) :
    refuseOverlap r o = .next t ↔ o = .next t ∧ r.overlapping = false := by
  cases o <;> simp [refuseOverlap, refuse]
  cases r.overlapping <;> simp

/-- Everything a step that completes can do. -/
theorem step_next_cases (s t : State) (h : step s = .next t) :
    s.marked = false ∧
      ((s.pending = [] ∧ t = s) ∨
        (∃ e rest, s.pending = .lifecycle e :: rest ∧ t = s.passEvent rest) ∨
        (∃ rest, s.pending = .powerLoss :: rest ∧ t = (s.passEvent rest).losePower) ∨
        (∃ r rest, s.pending = .drive r :: rest ∧ r.rst = true ∧ t = (s.present r rest).applyReset) ∨
        (∃ r rest, s.pending = .drive r :: rest ∧ r.rst = false ∧ r.overlapping = false ∧
          exec (decodeWord r.cmd) (s.present r rest) = .next t)) := by
  have hm : s.marked = false := by
    rcases hm : s.marked with _ | _
    · rfl
    · exact absurd h (step_marked s t hm)
  refine ⟨hm, ?_⟩
  rcases hp : s.pending with _ | ⟨e, rest⟩
  · rw [step_idle s hm hp] at h
    cases h
    exact .inl ⟨rfl, rfl⟩
  · rw [step_event s e rest hm hp] at h
    cases e with
    | lifecycle e => cases h; exact .inr (.inl ⟨e, rest, rfl, rfl⟩)
    | powerLoss => cases h; exact .inr (.inr (.inl ⟨rest, rfl, rfl⟩))
    | drive r =>
      have h : runRequest r rest s = .next t := h
      rcases hr : r.rst with _ | _
      · rw [runRequest_command r rest s hr, refuseOverlap_next] at h
        exact .inr (.inr (.inr (.inr ⟨r, rest, rfl, hr, h.2, h.1⟩)))
      · rw [runRequest_reset r rest s hr] at h
        cases h
        exact .inr (.inr (.inr (.inl ⟨r, rest, rfl, hr, rfl⟩)))

/-- `runFor` is the host's `run` of this machine. -/
theorem runFor_eq_core_run (k : Nat) (s : State) : runFor k s = Host.Core.run core k s := by
  induction k generalizing s with
  | zero => rfl
  | succ k ih =>
    have hstep : step s = core.step s := rfl
    simp only [runFor, Host.Core.run, hstep]
    cases core.step s with
    | next t => exact ih t
    | fault r => rfl
    | refused r => rfl

theorem runFor_succ_next (k : Nat) (s t : State) (h : step s = .next t) : runFor (k + 1) s = runFor k t := by
  simp [runFor, h]

end Sys2Proof.Machine
end

