-- ==== Sys2Proof/Laws/Runs.lean ====
section
/-! SUPPORT. Commands within the host's contract, and what a run of them does to one line. -/

namespace Sys2Proof.Machine

/-- What a command that completes leaves as it is, whichever it is. -/
theorem exec_next_keeps (i : Instr) (s t : State) (h : exec i s = .next t) :
    t.params = s.params ∧ t.marked = s.marked ∧ t.init = s.init ∧ t.pending = s.pending := by
  obtain ⟨-, ⟨rfl, rfl⟩ | ⟨rfl, rfl⟩ | ⟨rfl, rfl⟩ | ⟨rfl, -, rfl⟩⟩ := exec_next_cases i s t h <;>
    exact ⟨rfl, rfl, rfl, rfl⟩

/-- Only TICK changes a line. -/
theorem exec_next_line (i : Instr) (s t : State) (k : Nat) (h : exec i s = .next t) (hi : i ≠ .tick) :
    t.line k = s.line k := by
  obtain ⟨-, ⟨rfl, rfl⟩ | ⟨rfl, rfl⟩ | ⟨rfl, rfl⟩ | ⟨rfl, -, rfl⟩⟩ := exec_next_cases i s t h
  · rfl
  · rfl
  · exact absurd rfl hi
  · rfl

/-- The only word that decodes to TICK. -/
theorem decodeWord_eq_tick (w : Byte) : decodeWord w = .tick ↔ w = 0x01#8 := by
  constructor
  · intro h
    rcases decodeWord_cases w with ⟨_, e⟩ | ⟨e', _⟩ | ⟨_, e⟩ | ⟨_, e⟩ | ⟨_, e⟩
    · rw [h] at e; cases e
    · exact e'
    · rw [h] at e; cases e
    · rw [h] at e; cases e
    · rw [h] at e; cases e
  · rintro rfl; rfl

/-- A word of the opcode map completes after a reset, if BUILD has room for its report. -/
theorem exec_completes (w : Byte) (s : State) (hw : w < 0x04#8) (hi : s.init = true)
    (hc : w = 0x02#8 → 3 ≤ s.port.outCapacity) : ∃ t, exec (decodeWord w) s = .next t := by
  rcases decodeWord_cases w with ⟨_, e⟩ | ⟨_, e⟩ | ⟨h, e⟩ | ⟨_, e⟩ | ⟨h, _⟩
  · exact ⟨_, e ▸ exec_nop s hi⟩
  · exact ⟨_, e ▸ exec_tick s hi⟩
  · exact ⟨_, e ▸ exec_build s hi (hc h)⟩
  · exact ⟨_, e ▸ exec_consume s hi⟩
  · bv_omega

/-- A command within the contract is run by its step and completes. -/
theorem contract_step (s : State) (r : Request) (rest : List Event) (hm : s.marked = false)
    (hi : s.init = true) (hp : s.pending = .drive r :: rest) (hk : r.keepsContract = true) :
    r.rst = false ∧ ∃ t, step s = .next t ∧ exec (decodeWord r.cmd) (s.present r rest) = .next t := by
  simp only [Request.keepsContract, Bool.and_eq_true, Bool.not_eq_true', decide_eq_true_eq,
    Bool.or_eq_true, bne_iff_ne] at hk
  obtain ⟨⟨⟨hr, hw⟩, ho⟩, hc⟩ := hk
  obtain ⟨t, ht⟩ := exec_completes r.cmd (s.present r rest) hw hi (fun h => hc.resolve_left (fun h' => h' h))
  refine ⟨hr, t, ?_, ht⟩
  rw [step_event s _ _ hm hp]
  show runRequest r rest s = .next t
  rw [runRequest_command r rest s hr, refuseOverlap_next]
  exact ⟨ht, ho⟩

theorem tickCount_cons (e : Event) (es : List Event) :
    tickCount (e :: es) = (if e.ticks then 1 else 0) + tickCount es := by
  unfold tickCount
  by_cases h : e.ticks = true
  · simp [h]
    omega
  · simp [h]

/-- One event within the contract, seen on one line of the mask: a TICK takes the line's row, and nothing else
touches it. -/
theorem running_step (s : State) (e : Event) (rest : List Event) (i : Nat) (hm : s.marked = false)
    (hi : s.init = true) (hmask : s.params.buttonMask.getLsbD i = true)
    (hp : s.pending = e :: rest) (hk : e.keepsRunning = true) :
    ∃ t, step s = .next t ∧ t.marked = false ∧ t.init = true ∧ t.pending = rest ∧ t.params = s.params ∧
      t.line i = if e.ticks then lineRow (s.line i) (e.raw s.params.buttonMask i) else s.line i := by
  cases e with
  | powerLoss => cases hk
  | lifecycle e =>
    exact ⟨s.passEvent rest, by rw [step_event s _ _ hm hp]; rfl, hm, hi, rfl, rfl, rfl⟩
  | drive r =>
    obtain ⟨hr, t, hs, hx⟩ := contract_step s r rest hm hi hp hk
    obtain ⟨k1, k2, k3, k4⟩ := exec_next_keeps _ _ _ hx
    refine ⟨t, hs, k2.trans hm, k3.trans hi, k4, k1, ?_⟩
    by_cases hc : decodeWord r.cmd = .tick
    · have ht : (Event.drive r).ticks = true := by
        simp [Event.ticks, Request.ticks, hr, (decodeWord_eq_tick r.cmd).1 hc]
      rw [if_pos ht]
      rw [hc, exec_tick (s.present r rest) hi] at hx
      cases hx
      exact ticked_line _ _ hmask
    · have ht : (Event.drive r).ticks = false := by
        simpa [Event.ticks, Request.ticks, hr] using fun h => hc ((decodeWord_eq_tick r.cmd).2 h)
      rw [ht]
      exact exec_next_line _ (s.present r rest) t i hx hc

/-- A property of a line and the number of TICKs so far that every TICK of the run keeps holds at the run's end, and a
run of events within the contract never stops. -/
theorem run_keeps_line (i : Nat) (P : Nat → Line → Prop) (es : List Event) (s : State) (later : List Event)
    (k : Nat) (hm : s.marked = false) (hi : s.init = true) (hmask : s.params.buttonMask.getLsbD i = true)
    (hp : s.pending = es ++ later) (hk : ∀ e ∈ es, e.keepsRunning = true) (hP : P k (s.line i))
    (hstep : ∀ k l, ∀ e ∈ es, e.ticks = true → P k l → P (k + 1) (lineRow l (e.raw s.params.buttonMask i))) :
    ∃ t, runFor es.length s = .next t ∧ t.marked = false ∧ t.init = true ∧ t.pending = later ∧
      t.params = s.params ∧ P (k + tickCount es) (t.line i) := by
  induction es generalizing s k with
  | nil => exact ⟨s, rfl, hm, hi, hp, rfl, hP⟩
  | cons e es ih =>
    obtain ⟨t, hs, a, b, c, d, hl⟩ := running_step s e (es ++ later) i hm hi hmask hp (hk e (by simp))
    have hP' : P (k + if e.ticks then 1 else 0) (t.line i) := by
      rw [hl]
      by_cases h : e.ticks = true
      · simp only [h, if_true]
        exact hstep k _ e (by simp) h hP
      · simp only [h]
        exact hP
    obtain ⟨u, hu, a', b', c', d', hl'⟩ :=
      ih t (k + if e.ticks then 1 else 0) a b (d ▸ hmask) c (fun e he => hk e (by simp [he])) hP'
        (fun k l e he => by rw [d]; exact hstep k l e (by simp [he]))
    refine ⟨u, by rw [List.length_cons, runFor_succ_next _ _ _ hs, hu], a', b', c', d'.trans d, ?_⟩
    rw [tickCount_cons, ← Nat.add_assoc]
    exact hl'

end Sys2Proof.Machine
end

