-- ==== Sys2Proof/Tests/Slice0.lean ====
section
/-! SUPPORT. The model's own tests. Expected results are the vectors of spec/95_test_vectors.md and the tables of the
rules named. Then, for each statement with hypotheses, a state and operands that meet them together. -/

namespace Sys2Proof.Machine.Tests

/-! ### WellFormed: the one check refuses an ill-formed term -/

theorem test_wf_reserved_in_map : (Instr.reserved 0x03#8).wf = false := by decide

theorem test_wf_reserved_ends : (Instr.reserved 0x04#8).wf = true ∧ (Instr.reserved 0xFF#8).wf = true := by
  decide

/-! ### Decode: words written out from 30_encoding.md R62 and R63 -/

theorem test_decode_nop : decode [0b00000000#8] = .ok (.nop, []) := rfl

theorem test_decode_tick : decode [0b00000001#8, 0b00000010#8] = .ok (.tick, [0b00000010#8]) := rfl

theorem test_decode_build : decode [0b00000010#8] = .ok (.build, []) := rfl

theorem test_decode_consume : decode [0b00000011#8] = .ok (.consume, []) := rfl

/-- Vector D-2. -/
theorem test_decode_reserved :
    decode [0b00000100#8] = .ok (.reserved 0x04#8, []) ∧ decode [0b01111111#8] = .ok (.reserved 0x7F#8, []) ∧
    decode [0b10000000#8] = .ok (.reserved 0x80#8, []) ∧ decode [0b11111111#8] = .ok (.reserved 0xFF#8, []) :=
  ⟨rfl, rfl, rfl, rfl⟩

theorem test_decode_no_word : decode [] = .error .noWord := rfl

theorem test_decode_table_words :
    decodeTableWord 8 0 = some .nop ∧ decodeTableWord 8 3 = some .consume ∧
    decodeTableWord 8 0x81 = some (.reserved 0x81#8) ∧ decodeTableWord 0 1 = none :=
  ⟨rfl, rfl, rfl, rfl⟩

/-! ### States of the vectors -/

/-- A state after a reset with the given planes, pins, mask and buffer capacity. -/
def at' (c0 c1 conf : Byte) (btn : Byte := 0xFF#8) (joy : Nibble := 0xF#4) (mask : Byte := 0xFF#8)
    (cap : Nat := 3) : State :=
  { State.reset with
    params := ⟨mask⟩, c0 := c0, c1 := c1, conf := conf
    port := { Request.atRest with btnPin := btn, joyPin := joy, outCapacity := cap, outBuffer := 0x20 } }

def planesOf (o : Result) : Option Planes := (nextOf o).map fun t => ⟨t.c0, t.c1, t.conf⟩

def reportOf (o : Result) : Option Report := (nextOf o).bind State.rpt

/-! ### One or two vectors per command -/

/-- Vectors T6, T7 and T9: mixed lanes at every count. -/
theorem test_tick_mixed_lanes :
    planesOf (exec .tick (at' 0xAA 0xCC 0xF0 0x00)) = some ⟨0x05, 0x06, 0xF8⟩ ∧
    planesOf (exec .tick (at' 0xAA 0xCC 0xF0 0xFF)) = some ⟨0x50, 0x60, 0x70⟩ ∧
    planesOf (exec .tick (at' 0x55 0x33 0x0F 0xA5)) = some ⟨0x00, 0x44, 0x1E⟩ := by decide

/-- Vectors T5, T10, T11 and T12: an agreeing line at count 3, and masks. -/
theorem test_tick_agreeing_and_masked :
    planesOf (exec .tick (at' 0xFF 0xFF 0xFF 0x00)) = some ⟨0x00, 0x00, 0xFF⟩ ∧
    planesOf (exec .tick (at' 0x00 0x00 0x00 0x00 0xF 0x0F)) = some ⟨0x0F, 0x00, 0x00⟩ ∧
    planesOf (exec .tick (at' 0x0F 0x0F 0x00 0x00 0xF 0x0F)) = some ⟨0x00, 0x00, 0x0F⟩ ∧
    planesOf (exec .tick (at' 0x01 0x01 0x00 0xFE 0xF 0x01)) = some ⟨0x00, 0x00, 0x01⟩ := by decide

/-- Vectors B2 to B5: the bytes of the report, UP over DOWN, and a line inside its window. -/
theorem test_build_reports :
    reportOf (exec .build (at' 0 0 0x05 0xFF 0x4)) = some ⟨0x64, 0x9C, 0x05⟩ ∧
    reportOf (exec .build (at' 0 0 0xFF 0xFF 0x0)) = some ⟨0x9C, 0x9C, 0xFF⟩ ∧
    reportOf (exec .build (at' 0 0 0x80 0xFF 0xC)) = some ⟨0x00, 0x9C, 0x80⟩ ∧
    reportOf (exec .build (at' 0x01 0 0x00 0xFF 0x7)) = some ⟨0x64, 0x00, 0x00⟩ := by decide

/-- Vectors B2 (in the host's buffer, at offsets 0 to 2 of 0x20), B6 and B7. -/
theorem test_build_buffer_and_marks :
    (nextOf (exec .build (at' 0 0 0x05 0xFF 0x4))).map State.mem =
      some [(0x20, 0x64#8), (0x21, 0x9C#8), (0x22, 0x05#8)] ∧
    exec .build (at' 0 0 0 0xFF 0xF 0xFF 2) = .refused .shortBuffer ∧
    exec .build { at' 0 0 0 with init := false } = .fault .uninit := ⟨by decide, rfl, rfl⟩

/-- Vector C2. -/
theorem test_consume_keeps_window :
    nextOf (exec .consume (at' 0x03 0x00 0x01)) = some (at' 0x03 0x00 0x01) := by decide

/-- Vectors N1 and N2. -/
theorem test_nop :
    nextOf (exec .nop (at' 0x03 0x00 0x01)) = some (at' 0x03 0x00 0x01) ∧
    exec .nop State.powerOn = .fault .uninit := ⟨by decide, rfl⟩

/-- Vectors D-2 and D-3: refused after a reset and before one. -/
theorem test_reserved :
    step (State.reset.withFetchWord 8 0x7F) = .refused .reservedCmd ∧
    step (State.powerOn.withFetchWord 8 0x07) = .refused .reservedCmd := ⟨rfl, rfl⟩

/-! ### Sampler, axes, reset, marks -/

/-- Vectors S3 to S8. -/
theorem test_samplers :
    sampleButtons (at' 0 0 0 0xFE) = 0x01 ∧ sampleButtons (at' 0 0 0 0x7F) = 0x80 ∧
    sampleButtons (at' 0 0 0 0xF0 0xA 0x0F) = 0x0F ∧ sampleButtons (at' 0 0 0 0x01 0x3 0x01) = 0x00 ∧
    sampleJoystick (at' 0 0 0 0xFF 0x4) = 0xB ∧ sampleJoystick (at' 0 0 0 0xFF 0x9) = 0x6 := by decide

/-- 42_report.md R120, the sixteen rows from `j = 0` on. -/
theorem test_axis_rows :
    ([0, 1, 2, 3, 4, 5, 6, 7, 8, 9, 10, 11, 12, 13, 14, 15] : List Nibble).map (fun j => (reportX j, reportY j)) =
      [(0x00, 0x00), (0x00, 0x9C), (0x00, 0x64), (0x00, 0x9C), (0x9C, 0x00), (0x9C, 0x9C), (0x9C, 0x64),
        (0x9C, 0x9C), (0x64, 0x00), (0x64, 0x9C), (0x64, 0x64), (0x64, 0x9C), (0x9C, 0x00), (0x9C, 0x9C),
        (0x9C, 0x64), (0x9C, 0x9C)] := by decide

/-- Vectors R-1 and R-2: a reset together with a TICK is a reset only. -/
theorem test_reset_drops_the_command :
    (nextOf (step { at' 0x0F 0xF0 0x33 0x00 with
      rpt := some ⟨0, 0, 0x33⟩, rptValid := true
      pending := [.drive { Request.atRest with rst := true, cmd := 0x01 }] })).map
        (fun t => (t.c0, t.c1, t.conf, t.rpt, t.rptValid, t.init)) =
      some (0x00#8, 0x00#8, 0x00#8, none, false, true) := rfl

/-- Vector R-3: no step from a state marked UNINIT, a reset included. -/
theorem test_fault_is_quiescent :
    step { State.powerOn with fault := some .uninit, pending := [lineReset] } = .fault .uninit := rfl

/-- 30_encoding.md R68, R69 and 95_test_vectors.md P1's encoding, two lines of it. -/
theorem test_program_bytes :
    programBytes (lineReset :: poll 0xFE 0xF ++ [lineConsume 8, lineNop]) = [0x01, 0x02, 0x03, 0x00] ∧
    programBytes (hold 3 0xFE) = [0x01, 0x01, 0x01] := by decide

/-! ### Witnesses: the hypotheses of the statements, met together -/

/-- A TICK with line 0 pressed. -/
def pressed : Request := { Request.atRest with cmd := 0x01, btnPin := 0xFE }

/-- A BUILD within the contract. -/
def asked : Request := { Request.atRest with cmd := 0x02, joyPin := 0x4 }

/-- A reset step. -/
def resetting : Request := { Request.atRest with rst := true }

/-- A state after a reset with events to come. -/
def withEvents (es : List Event) : State := { at' 0x00 0x00 0x00 with pending := es }

theorem witness_DecodeAndEncodeAgree :
    ∀ i ∈ [Instr.nop, .tick, .build, .consume, .reserved 0x04, .reserved 0xFF], i.wf = true := by decide

theorem witness_WordsDecodeByTheOpcodeMap : 0x04#8 ≤ 0x04#8 ∧ 0x04#8 ≤ (0xFF#8 : Byte) := by decide

theorem witness_StepRunsTheDecodedCommand :
    (withEvents [.drive pressed]).marked = false ∧ (withEvents [.drive pressed]).pending = .drive pressed :: [] ∧
    pressed.rst = false ∧ pressed.overlapping = false := by decide

theorem witness_StepRunsTheDecodedCommand_overlap :
    (withEvents [.drive { pressed with overlapping := true }]).marked = false ∧
    ({ pressed with overlapping := true } : Request).rst = false ∧
    (nextOf (exec (decodeWord 0x01) (at' 0 0 0))).isSome = true ∧
    exec (decodeWord 0x01) State.powerOn = .fault .uninit ∧
    exec (decodeWord 0x04) State.reset = .refused .reservedCmd := ⟨rfl, rfl, rfl, rfl, rfl⟩

theorem witness_PlacedWordRunsNext : State.reset.marked = false ∧ 255 < 256 := by decide

theorem witness_TickIsAFunctionOfStateAndSample : (at' 0xAA 0xCC 0xF0 0x00).init = true := rfl

theorem witness_AgreeingLinesClearTheirCount :
    (at' 0xFF 0xFF 0xFF 0x00).init = true ∧
    (sampleButtons (at' 0xFF 0xFF 0xFF 0x00) ^^^ (at' 0xFF 0xFF 0xFF 0x00).conf).getLsbD 7 = false := by decide

theorem witness_DisagreeingLinesCountAndFlipAtThree :
    (at' 0xFF 0xFF 0x00 0x00).init = true ∧ (at' 0xFF 0xFF 0x00 0x00).params.buttonMask.getLsbD 7 = true ∧
    (sampleButtons (at' 0xFF 0xFF 0x00 0x00) ^^^ (at' 0xFF 0xFF 0x00 0x00).conf).getLsbD 7 = true := by decide

theorem witness_ConfirmedStateChangesByFlipsInsideTheMask :
    (at' 0x0F 0x0F 0x00 0x00 0xF 0x0F).init = true ∧ (at' 0x0F 0x0F 0x00 0x00 0xF 0x0F).MaskedPlanes ∧
    ((sampleButtons (at' 0x0F 0x0F 0x00 0x00 0xF 0x0F) ^^^ 0x00#8) &&& 0x0F#8 &&& 0x0F#8).getLsbD 4 = false := by
  decide

/-- Two states that agree on line 0 only. -/
theorem witness_LinesAreIndependent :
    (at' 0x01 0x00 0x00 0xFE).line 0 = (at' 0xFF 0xFE 0xFE 0x00).line 0 ∧
    (sampleButtons (at' 0x01 0x00 0x00 0xFE)).getLsbD 0 = (sampleButtons (at' 0xFF 0xFE 0xFE 0x00)).getLsbD 0 ∧
    (at' 0x01 0x00 0x00 0xFE).init = true ∧ (at' 0xFF 0xFE 0xFE 0x00).init = true := by decide

theorem witness_EveryLineFollowsTheSixteenRows :
    (at' 0 0 0).init = true ∧ (at' 0 0 0).params.buttonMask.getLsbD 7 = true := by decide

theorem witness_CountsAfterATickBelongToDisagreeingLines : (at' 0xAA 0xCC 0xF0 0x00).init = true := rfl

/-- For every statement whose hypotheses are a reset and room for a report, at the smallest room. -/
theorem witness_BuildDeliversTheReport :
    (at' 0 0 0x05 0xFF 0x4).init = true ∧ 3 ≤ (at' 0 0 0x05 0xFF 0x4).port.outCapacity := by decide

theorem witness_AxesFollowDirectionPriority :
    (at' 0 0 0 0xFF 0xC).init = true ∧ 3 ≤ (at' 0 0 0 0xFF 0xC).port.outCapacity ∧
    sampleJoystick (at' 0 0 0 0xFF 0xC) = 0x3 := by decide

theorem witness_ButtonByteIsTheConfirmedState :
    (at' 0 0 0x12 0x00 0xF).init = true ∧ 3 ≤ (at' 0 0 0x12 0x00 0xF).port.outCapacity := by decide

theorem witness_EveryBuildIsComplete :
    (at' 0 0 0x05).init = true ∧ 3 ≤ (at' 0 0 0x05).port.outCapacity ∧
    ((0x1F : Nat) < (at' 0 0 0x05).port.outBuffer ∨ (at' 0 0 0x05).port.outBuffer + 3 ≤ 0x23) := by decide

/-- Two states that differ in the counters, the button pins and the capacity. -/
theorem witness_ReportDependsOnSampleAndConfirmedStateOnly :
    (at' 0x01 0 0x05 0xFF 0x4).init = true ∧ (at' 0 0x02 0x05 0x00 0x4 0xFF 9).init = true ∧
    3 ≤ (at' 0x01 0 0x05 0xFF 0x4).port.outCapacity ∧ 3 ≤ (at' 0 0x02 0x05 0x00 0x4 0xFF 9).port.outCapacity ∧
    sampleJoystick (at' 0x01 0 0x05 0xFF 0x4) = sampleJoystick (at' 0 0x02 0x05 0x00 0x4 0xFF 9) ∧
    (at' 0x01 0 0x05 0xFF 0x4).conf = (at' 0 0x02 0x05 0x00 0x4 0xFF 9).conf := by decide

theorem witness_ShortBufferIsRefused :
    (at' 0 0 0 0xFF 0xF 0xFF 2).init = true ∧ (at' 0 0 0 0xFF 0xF 0xFF 2).port.outCapacity < 3 := by decide

theorem witness_ConsumeChangesAndReadsNothing : (at' 0x03 0x00 0x01).init = true := rfl

theorem witness_NopChangesNothing : (at' 0x03 0x00 0x01).init = true := rfl

theorem witness_ReservedWordsAreRefused : 0x04#8 ≤ (0x07#8 : Byte) := by decide

theorem witness_CommandsBeforeResetFault : State.powerOn.init = false := rfl

/-- A completing command of each kind. -/
theorem witness_CommandsKeepWhatTheyDoNotWrite :
    [Instr.nop, .tick, .build, .consume].all (fun i => (nextOf (exec i (at' 0x01 0x02 0x05))).isSome) = true := by
  decide

/-- A completing step of each kind the statement speaks of. -/
theorem witness_FieldsChangeOnlyByTheirWriters :
    (nextOf (step (withEvents [.drive pressed]))).isSome = true ∧
    (nextOf (step (withEvents [.drive asked]))).isSome = true ∧
    (nextOf (step (withEvents [.lifecycle .connect]))).isSome = true ∧
    (nextOf (step (withEvents []))).isSome = true := by decide

theorem witness_ResetStepStartsTheBlock :
    (withEvents [.drive resetting]).marked = false ∧
    (withEvents [.drive resetting]).pending = .drive resetting :: [] ∧ resetting.rst = true := by decide

/-- A state of the invariant with planes, a report and outputs, and a step from it. -/
theorem witness_EveryStepKeepsTheInvariant :
    ∃ s t : State, s.Inv ∧ s.rpt = some ⟨0x64, 0x9C, 0x05⟩ ∧ step s = .next t := by
  refine ⟨{ withEvents [.drive pressed] with
    c0 := 0x0F, conf := 0x05, rpt := some ⟨0x64, 0x9C, 0x05⟩, rptValid := true
    outputs := some ⟨3, false, true⟩, mem := [(0x20, 0x64#8), (0x21, 0x9C#8)] }, _, ?_, rfl, rfl⟩
  refine ⟨by decide, by decide, rfl, nofun, ?_, .inr rfl, .inl rfl⟩
  rintro r ⟨⟩
  decide

/-- A step that faults, one that is refused, and a marked state. -/
theorem witness_StoppedStepsLeaveOnlyAStickyMark :
    State.powerOn.marked = false ∧ step (State.powerOn.withFetchWord 8 0x01) = .fault .uninit ∧
    step (State.reset.withFetchWord 8 0x04) = .refused .reservedCmd ∧
    ({ State.reset with refused := some .reservedCmd } : State).marked = true := ⟨rfl, rfl, rfl, rfl⟩

/-- One request for each clause of the check order, at the ends of its ranges. -/
theorem witness_MarksFollowTheCheckOrder :
    (withEvents [.drive asked]).marked = false ∧ (withEvents [.drive asked]).pending = .drive asked :: [] ∧
    resetting.rst = true ∧
    (asked.rst = false ∧ 0x04#8 ≤ ({ asked with cmd := 0x04 } : Request).cmd) ∧
    (({ asked with cmd := 0x03 } : Request).cmd < 0x04#8 ∧
      ({ withEvents [.drive asked] with init := false } : State).init = false) ∧
    (asked.cmd = 0x02#8 ∧ (withEvents []).init = true ∧ ({ asked with outCapacity := 2 } : Request).outCapacity < 3) ∧
    (asked.cmd < 0x04#8 ∧ (asked.cmd = 0x02#8 → 3 ≤ asked.outCapacity) ∧
      ({ asked with overlapping := true } : Request).overlapping = true ∧ asked.overlapping = false) := by decide

theorem witness_QuietStepsAndPowerLoss :
    (withEvents []).marked = false ∧ (withEvents []).pending = [] ∧
    (withEvents [.lifecycle .disconnect]).pending = .lifecycle .disconnect :: [] ∧
    (withEvents [.powerLoss]).pending = .powerLoss :: [] := by decide

theorem witness_ReportIsObservedOnlyWhenValid :
    State.reset.rptValid = false ∧
    ({ State.reset with rpt := some ⟨0, 0, 5⟩, rptValid := true } : State).rptValid = true ∧
    ({ State.reset with rpt := some ⟨0, 0, 5⟩, rptValid := true } : State).rpt = some ⟨0, 0, 5⟩ := by decide

theorem witness_ButtonSampleIsActiveLowAndMasked :
    (at' 0 0 0 0xFF).port.btnPin = 0xFF#8 ∧ (at' 0 0 0 0x00).port.btnPin = 0x00#8 ∧
    (at' 0 0 0 0xFF 0xF 0x0F).params.buttonMask.getLsbD 3 = true ∧
    (at' 0 0 0 0xFF 0xF 0x0F).params.buttonMask.getLsbD 4 = false ∧
    ((at' 0 0 0 0xFE).port.btnPin = 0xFE#8 ∧ (at' 0 0 0 0xFE).params.buttonMask = 0xFF#8) := by decide

theorem witness_JoystickSampleIsActiveLow :
    (at' 0 0 0 0xFF 0xF).port.joyPin = 0xF#4 ∧ (at' 0 0 0 0xFF 0x0).port.joyPin = 0x0#4 ∧
    (at' 0 0 0 0xFF 0x4).port.joyPin = 0x4#4 := by decide

theorem witness_OutputsAndCountersAreHidden :
    (withEvents [.drive asked]).pending = .drive asked :: [] ∧ Instr.build ≠ .tick := by decide

/-- A run that resets the block, one that faults and one that is refused, each from before the first reset. -/
theorem witness_PlanesBeforeResetNeverLeak :
    State.powerOn.init = false ∧
    (∃ t, runFor 1 { State.powerOn with pending := [lineReset] } = .next t ∧ t.init = true) ∧
    runFor 1 (State.powerOn.withFetchWord 8 0x01) = .fault .uninit ∧
    runFor 1 (State.powerOn.withFetchWord 8 0x07) = .refused .reservedCmd :=
  ⟨rfl, ⟨_, rfl, rfl⟩, rfl, rfl⟩

theorem witness_CommandsTakeEffectInIssueOrder : ∃ t, runFor 1 (withEvents [.drive pressed]) = .next t := ⟨_, rfl⟩

theorem witness_HostWithinTheContractIsNeverStopped :
    (withEvents [lineReset, .drive pressed, .lifecycle .startOfFrame, lineBuild 0x4, lineConsume 8, lineNop]).marked
      = false ∧
    (withEvents [lineReset, .drive pressed, .lifecycle .startOfFrame, lineBuild 0x4, lineConsume 8, lineNop]).init
      = true ∧
    ∀ e ∈ (withEvents
      [lineReset, .drive pressed, .lifecycle .startOfFrame, lineBuild 0x4, lineConsume 8, lineNop]).pending,
      e.keepsContract = true := by decide

/-- One TICK of the pressed line 0, from count 0. -/
theorem witness_CountIsTheRunOfDisagreeingTicks :
    ∃ t, (withEvents [.drive pressed]).init = true ∧
      (withEvents [.drive pressed]).params.buttonMask.getLsbD 0 = true ∧
      ((withEvents [.drive pressed]).line 0).count = .stable ∧
      runWatching 0 1 (withEvents [.drive pressed]) [] = some (t, [⟨true, false⟩]) ∧ t.init = true :=
  ⟨_, rfl, by decide, by decide, rfl, rfl⟩

/-- Four TICKs of the pressed line 0 with a NOP among them: vector T-S1, where `r_k = 4`. -/
theorem witness_CountIsTheRunOfDisagreeingTicks_four :
    ∃ t, runWatching 0 5 (withEvents (hold 2 0xFE ++ lineNop :: hold 2 0xFE)) [] =
        some (t, [⟨true, true⟩, ⟨true, false⟩, ⟨true, false⟩, ⟨true, false⟩]) ∧ t.init = true ∧
      disagreeingRun [⟨true, true⟩, ⟨true, false⟩, ⟨true, false⟩, ⟨true, false⟩] = 4 :=
  ⟨_, rfl, rfl, rfl⟩

/-- Four TICKs that hold line 0 pressed, with a NOP among them and a BUILD after them. -/
theorem witness_HeldDisagreementFlipsOnceOnTheFourthTick :
    let es := hold 2 0xFE ++ lineNop :: hold 2 0xFE
    let s := withEvents (es ++ [lineBuild 0xF])
    s.marked = false ∧ s.init = true ∧ s.params.buttonMask.getLsbD 0 = true ∧ (s.line 0).count = .stable ∧
    s.pending = es ++ [lineBuild 0xF] ∧ (∀ e ∈ es, e.keepsRunning = true) ∧
    (∀ e ∈ es, e.ticks = true → e.raw s.params.buttonMask 0 = !(s.line 0).confirmed) ∧ tickCount es = 4 := by
  decide

/-- The same with three TICKs. -/
theorem witness_HeldDisagreementFlipsOnceOnTheFourthTick_three :
    let es := lineNop :: hold 3 0xFE
    let s := withEvents (es ++ [lineBuild 0xF])
    s.marked = false ∧ s.init = true ∧ s.params.buttonMask.getLsbD 0 = true ∧ (s.line 0).count = .stable ∧
    s.pending = es ++ [lineBuild 0xF] ∧ (∀ e ∈ es, e.keepsRunning = true) ∧
    (∀ e ∈ es, e.ticks = true → e.raw s.params.buttonMask 0 = !(s.line 0).confirmed) ∧ tickCount es = 3 := by
  decide

/-- A line at count 3 that agrees from then on. -/
theorem witness_AgreeingLineIsStable :
    let es := hold 2 0xFF
    let s : State := { at' 0x01 0x01 0x00 with pending := es }
    s.marked = false ∧ s.init = true ∧ s.params.buttonMask.getLsbD 0 = true ∧
    s.pending = es ++ [] ∧ (∀ e ∈ es, e.keepsRunning = true) ∧
    (∀ e ∈ es, e.ticks = true → e.raw s.params.buttonMask 0 = (s.line 0).confirmed) ∧ 0 < tickCount es := by
  decide

/-- Three disagreeing TICKs and then an agreeing one: vector T-S3. -/
theorem witness_FewerThanFourTicksNeverFlip :
    let es := hold 3 0xFE
    let s := withEvents (es ++ [.drive { pressed with btnPin := 0xFF }])
    s.marked = false ∧ s.init = true ∧ s.params.buttonMask.getLsbD 0 = true ∧ (s.line 0).count = .stable ∧
    s.pending = es ++ [.drive { pressed with btnPin := 0xFF }] ∧ (∀ e ∈ es, e.keepsRunning = true) ∧
    tickCount es < 4 ∧ ({ pressed with btnPin := 0xFF } : Request).keepsContract = true ∧
    ({ pressed with btnPin := 0xFF } : Request).ticks = true ∧
    (Event.drive { pressed with btnPin := 0xFF }).raw s.params.buttonMask 0 = (s.line 0).confirmed := by decide

/-- Line 0 held pressed over a reset, four TICKs and a BUILD, from before the first reset. -/
theorem witness_PressHeldFromResetIsReportedFromTheFourthTick :
    let es := hold 4 0xFE
    let s : State := { State.powerOn with pending := .drive resetting :: es ++ .drive asked :: [] }
    s.marked = false ∧ s.params.buttonMask.getLsbD 0 = true ∧ resetting.rst = true ∧
    asked.keepsContract = true ∧ asked.cmd = 0x02#8 ∧
    (∀ e ∈ es, e.keepsRunning = true) ∧
    (∀ e ∈ es, e.ticks = true → e.raw s.params.buttonMask 0 = true) ∧ tickCount es = 4 := by decide

/-- The same with three TICKs. -/
theorem witness_PressHeldFromResetIsReportedFromTheFourthTick_three :
    let es := hold 3 0xFE
    let s : State := { State.powerOn with pending := .drive resetting :: es ++ .drive asked :: [] }
    s.marked = false ∧ s.params.buttonMask.getLsbD 0 = true ∧ resetting.rst = true ∧
    asked.keepsContract = true ∧ asked.cmd = 0x02#8 ∧
    (∀ e ∈ es, e.keepsRunning = true) ∧
    (∀ e ∈ es, e.ticks = true → e.raw s.params.buttonMask 0 = true) ∧ tickCount es = 3 := by decide

/-- Line 0 at count 3 after three disagreeing TICKs, and the TICK that makes `r_k` 4. -/
theorem witness_EveryStepKeepsTheCountOfTheHistory :
    let s : State := { at' 0x01 0x01 0x00 with pending := [.drive pressed] }
    let h : List LineTick := [⟨true, false⟩, ⟨true, false⟩, ⟨true, false⟩]
    s.params.buttonMask.getLsbD 0 = true ∧ s.init = true ∧ s.CountMatches 0 h ∧
    ∃ t, step s = .next t ∧ extendHistory 0 s t h = ⟨true, true⟩ :: h :=
  ⟨by decide, rfl, fun _ => rfl, _, rfl, rfl⟩

end Sys2Proof.Machine.Tests
end

/-! ## The memory family (20_memory.md): issue order and the short buffer -/

namespace Sys2Proof.Machine

/-! ### Steps of a marked state -/

theorem step_of_fault (s : State) (f : Fault) (h : s.fault = some f) : step s = .fault f := by
  simp [step, sequencerStep, h]

theorem step_of_refused (s : State) (f : Refusal) (hf : s.fault = none) (h : s.refused = some f) :
    step s = .refused f := by
  simp [step, sequencerStep, hf, h]

/-! ### What is issued later (R51)

`State.passEvent rest` is the state with `rest` still to come, and these lemmas speak of every `rest` through it. -/

/-- The overlap check looks at how a command ends, not at the state it ends in. -/
theorem refuseOverlap_onNext (f : State → State) (r : Request) (o : Result) :
    refuseOverlap r (onNext f o) = onNext f (refuseOverlap r o) := by
  cases o with
  | next t =>
    simp only [refuseOverlap, onNext, refuse]
    cases r.overlapping <;> rfl
  | fault f => rfl
  | refused f => rfl

/-- No command reads or writes what is still to come. -/
theorem exec_passEvent (i : Instr) (s : State) (rest : List Event) :
    exec i (s.passEvent rest) = onNext (·.passEvent rest) (exec i s) :=
  exec_commutes (·.passEvent rest) i s rfl rfl (fun _ => rfl) (fun _ => rfl)

/-- What comes after an event is only handed on by it. -/
theorem runEvent_rest (e : Event) (rest rest' : List Event) (s : State) :
    runEvent e rest s = onNext (·.passEvent rest) (runEvent e rest' s) := by
  cases e with
  | lifecycle e => rfl
  | powerLoss => rfl
  | drive r =>
    show runRequest r rest s = onNext (·.passEvent rest) (runRequest r rest' s)
    cases hr : r.rst with
    | true =>
      rw [runRequest_reset r rest s hr, runRequest_reset r rest' s hr]
      rfl
    | false =>
      have hpresent : s.present r rest = (s.present r rest').passEvent rest := rfl
      rw [runRequest_command r rest s hr, runRequest_command r rest' s hr, hpresent, exec_passEvent,
        refuseOverlap_onNext]

/-- An event taken from the queue replaces the queue, whatever it held. -/
theorem runEvent_passEvent (e : Event) (rest queue : List Event) (s : State) :
    runEvent e rest (s.passEvent queue) = runEvent e rest s := by
  cases e with
  | lifecycle e => rfl
  | powerLoss => rfl
  | drive r => rfl

/-- A step on `e` ends as it does when nothing comes after `e`, with the rest of the queue handed on. -/
theorem step_passEvent_cons (s : State) (e : Event) (rest : List Event) :
    step (s.passEvent (e :: rest)) = onNext (·.passEvent rest) (step (s.passEvent [e])) := by
  cases hf : s.fault with
  | some f =>
    have hstop (queue : List Event) : step (s.passEvent queue) = .fault f := step_of_fault _ f hf
    rw [hstop, hstop]
    rfl
  | none =>
    cases hr : s.refused with
    | some f =>
      have hstop (queue : List Event) : step (s.passEvent queue) = .refused f :=
        step_of_refused _ f hf hr
      rw [hstop, hstop]
      rfl
    | none =>
      have hm (queue : List Event) : (s.passEvent queue).marked = false :=
        (marked_eq_false_iff _).2 ⟨hf, hr⟩
      rw [step_event _ e rest (hm _) rfl, step_event _ e [] (hm _) rfl, runEvent_passEvent,
        runEvent_passEvent]
      exact runEvent_rest e rest [] s

/-- Running the events `es` to their end ends the same way whatever is issued after them. -/
theorem runFor_passEvent_append (es later : List Event) (s : State) :
    runFor es.length (s.passEvent (es ++ later)) =
      onNext (·.passEvent later) (runFor es.length (s.passEvent es)) := by
  induction es generalizing s with
  | nil => rfl
  | cons e es ih =>
    simp only [List.length_cons, List.cons_append, runFor]
    rw [step_passEvent_cons s e (es ++ later), step_passEvent_cons s e es]
    cases step (s.passEvent [e]) with
    | next t => exact ih t
    | fault f => rfl
    | refused f => rfl

/-! ### Runs one after the other -/

/-- A run that completes is a step that completes and a run from where it ends. -/
theorem runFor_succ_eq_next (k : Nat) (s t : State) :
    runFor (k + 1) s = .next t ↔ ∃ u, step s = .next u ∧ runFor k u = .next t := by
  cases hs : step s <;> simp [runFor, hs]

theorem runFor_add (m n : Nat) (s t : State) (h : runFor m s = .next t) :
    runFor (m + n) s = runFor n t := by
  induction m generalizing s with
  | zero =>
    cases h
    rw [Nat.zero_add]
  | succ m ih =>
    obtain ⟨u, hs, hu⟩ := (runFor_succ_eq_next m s t).1 h
    rw [Nat.succ_add, runFor_succ_next _ _ _ hs, ih u hu]

/-! ### The obligations -/

/-- Settles O37: runs compose, and each step only hands on what is issued after its event. -/
theorem commandsTakeEffectInIssueOrder : Obligations.CommandsTakeEffectInIssueOrder :=
  ⟨runFor_add, runFor_passEvent_append⟩

/-- Settles O17: the capacity check of BUILD after a reset. -/
theorem shortBufferIsRefused : Obligations.ShortBufferIsRefused := exec_build_short

end Sys2Proof.Machine

/-! ## The encoding family (30_encoding.md): the opcode map and the reserved words -/

namespace Sys2Proof.Machine

/-- Settles O2: the mapped words and the empty list compute; the reserved range is `decodeWord_reserved`. -/
theorem wordsDecodeByTheOpcodeMap : Obligations.WordsDecodeByTheOpcodeMap :=
  ⟨rfl, rfl, rfl, rfl, decodeWord_reserved, rfl⟩

/-- Settles O20: a word of the reserved range decodes to itself, and its command is refused unconditionally. -/
theorem reservedWordsAreRefused : Obligations.ReservedWordsAreRefused := by
  intro w s hw
  rw [decodeWord_reserved w hw]
  exact exec_reserved w s

end Sys2Proof.Machine

/-! ## The sampler family (40_sampler.md): the buttons' sample -/

namespace Sys2Proof.Machine

/-- R80, R81 on one line: a line past the byte is in no mask. -/
theorem sampleButtons_getLsbD (s : State) (i : Nat) :
    (sampleButtons s).getLsbD i = (!s.port.btnPin.getLsbD i && s.params.buttonMask.getLsbD i) := by
  rcases Nat.lt_or_ge i 8 with hi | hi
  · simp [sampleButtons, hi]
  · simp [BitVec.getLsbD_of_ge _ i hi]

theorem sampleButtons_getLsbD_of_mask (s : State) (i : Nat)
    (hmask : s.params.buttonMask.getLsbD i = true) :
    (sampleButtons s).getLsbD i = !s.port.btnPin.getLsbD i := by
  rw [sampleButtons_getLsbD, hmask, Bool.and_true]

theorem sampleButtons_getLsbD_of_not_mask (s : State) (i : Nat)
    (hmask : s.params.buttonMask.getLsbD i = false) : (sampleButtons s).getLsbD i = false := by
  rw [sampleButtons_getLsbD, hmask, Bool.and_false]

theorem sampleButtons_of_pins_high (s : State) (hpin : s.port.btnPin = 0xFF#8) :
    sampleButtons s = 0x00#8 := by
  have hlow : ~~~ 0xFF#8 = 0x00#8 := by decide
  rw [sampleButtons, hpin, hlow, BitVec.zero_and]

theorem sampleButtons_of_pins_low (s : State) (hpin : s.port.btnPin = 0x00#8) :
    sampleButtons s = s.params.buttonMask := by
  rw [sampleButtons, hpin, BitVec.not_zero, BitVec.allOnes_and]

/-- R80's example: only line 0 reads low. -/
theorem sampleButtons_of_pin_zero_low (s : State) (hpin : s.port.btnPin = 0xFE#8)
    (hmask : s.params.buttonMask = 0xFF#8) : sampleButtons s = 0x01#8 := by
  rw [sampleButtons, hpin, hmask]
  decide

/-- Settles O32: the formula is the definition, and each corner case is a lemma about it. -/
theorem buttonSampleIsActiveLowAndMasked : Obligations.ButtonSampleIsActiveLowAndMasked := fun s =>
  ⟨rfl, sampleButtons_getLsbD_of_mask s, sampleButtons_of_pins_high s, sampleButtons_of_pins_low s,
    sampleButtons_getLsbD_of_not_mask s, sampleButtons_of_pin_zero_low s⟩

end Sys2Proof.Machine

/-! ## The debounce family (41_debounce.md): a TICK seen on one line -/

namespace Sys2Proof.Machine

/-- R92 and R93 on the low counter bit: it toggles, gated by `delta`. -/
theorem ticked_c0_getLsbD (s : State) (i : Nat) :
    s.ticked.c0.getLsbD i = ((sampleButtons s ^^^ s.conf).getLsbD i && !s.c0.getLsbD i) := by
  rw [State.ticked, State.setPlanes_c0, debounceStep_c0_bit, BitVec.getLsbD_xor]

/-- R92 and R93 on the high counter bit: it toggles after a set low bit, gated by `delta`. -/
theorem ticked_c1_getLsbD (s : State) (i : Nat) :
    s.ticked.c1.getLsbD i =
      ((sampleButtons s ^^^ s.conf).getLsbD i && (s.c1.getLsbD i ^^ s.c0.getLsbD i)) := by
  rw [State.ticked, State.setPlanes_c1, debounceStep_c1_bit, BitVec.getLsbD_xor]

/-- A TICK seen on any line, inside the mask or not (`ticked_line` is the case inside). -/
theorem ticked_line_masked (s : State) (i : Nat) :
    s.ticked.line i =
      ⟨(lineRow (s.line i) ((sampleButtons s).getLsbD i)).count,
        (lineRow (s.line i) ((sampleButtons s).getLsbD i)).confirmed &&
          s.params.buttonMask.getLsbD i⟩ :=
  setPlanes_debounceStep_line s (sampleButtons s) s.params.buttonMask i

/-- Settles O9: a line after a TICK is written in the line, its raw bit and its mask bit alone. -/
theorem linesAreIndependent : Obligations.LinesAreIndependent := by
  intro s u i hs hu hline hraw hmask
  refine ⟨s.ticked, u.ticked, exec_tick s hs, exec_tick u hu, ?_⟩
  rw [ticked_line_masked, ticked_line_masked, hline, hraw, hmask]

/-- Settles O6: `delta` gates both counter bits. -/
theorem agreeingLinesClearTheirCount : Obligations.AgreeingLinesClearTheirCount := by
  intro s i hs hdelta
  refine ⟨s.ticked, exec_tick s hs, ?_, ?_⟩
  · rw [ticked_c0_getLsbD, hdelta, Bool.false_and]
  · rw [ticked_c1_getLsbD, hdelta, Bool.false_and]

end Sys2Proof.Machine

/-! ## The report family (42_report.md): what a BUILD delivers, and CONSUME -/

namespace Sys2Proof.Machine

/-- R113: the Button byte is the confirmed state, whatever the joystick sample. -/
theorem buildReport_btn (j : Nibble) (conf : Byte) : (buildReport j conf).btn = conf := rfl

/-! ### The host's buffer after a delivery (R46) -/

theorem deliver_read_x (s : State) (r : Report) :
    (s.deliver r).mem.read s.port.outBuffer = some r.x :=
  Memory.read_writeBytes_inside r.bytes s.mem s.port.outBuffer 0 (by decide : 0 < 3)

theorem deliver_read_y (s : State) (r : Report) :
    (s.deliver r).mem.read (s.port.outBuffer + 1) = some r.y :=
  Memory.read_writeBytes_inside r.bytes s.mem s.port.outBuffer 1 (by decide : 1 < 3)

theorem deliver_read_btn (s : State) (r : Report) :
    (s.deliver r).mem.read (s.port.outBuffer + 2) = some r.btn :=
  Memory.read_writeBytes_inside r.bytes s.mem s.port.outBuffer 2 (by decide : 2 < 3)

theorem deliver_read_outside (s : State) (r : Report) (a : Nat)
    (ha : a < s.port.outBuffer ∨ s.port.outBuffer + 3 ≤ a) :
    (s.deliver r).mem.read a = s.mem.read a :=
  Memory.read_writeBytes_outside r.bytes s.mem s.port.outBuffer a ha

/-! ### The obligations -/

/-- Settles O15: BUILD delivers the report of its sample, and a delivery fills the three bytes of the buffer, drives
the outputs and writes no other byte and no plane. -/
theorem everyBuildIsComplete : Obligations.EveryBuildIsComplete := by
  intro s hs hcap
  exact ⟨s.built, buildReport (sampleJoystick s) s.conf, exec_build s hs hcap,
    State.deliver_rpt s _, State.deliver_rptValid s _,
    deliver_read_x s _, deliver_read_y s _, deliver_read_btn s _, deliver_read_outside s _,
    State.deliver_outputs s _,
    State.deliver_c0 s _, State.deliver_c1 s _, State.deliver_conf s _, State.deliver_init s _⟩

/-- Settles O14: the report is built from the joystick sample and `conf`, so other button pins and counters stand in
the state but not in the Button byte. -/
theorem buttonByteIsTheConfirmedState : Obligations.ButtonByteIsTheConfirmedState := by
  intro s pins a b hs hcap
  have hbtn := buildReport_btn (sampleJoystick s) s.conf
  refine ⟨_, buildReport (sampleJoystick s) s.conf, exec_build _ hs hcap, State.deliver_rpt _ _, hbtn, ?_, ?_⟩
  · exact deliver_read_btn _ (buildReport (sampleJoystick s) s.conf)
  · intro i
    rw [hbtn, State.line]

/-- Settles O18: after a reset CONSUME answers the state it is given, and another payload leaves `init` set. -/
theorem consumeChangesAndReadsNothing : Obligations.ConsumeChangesAndReadsNothing :=
  fun s _ _ _ _ _ hs => ⟨exec_consume s hs, exec_consume _ hs⟩

end Sys2Proof.Machine

/-! ## The exceptions family (60_exceptions.md): commands before the first reset -/

namespace Sys2Proof.Machine

/-- Settles O21: none of the four commands is a reserved word, so each one meets the missing reset (`exec_uninit`). -/
theorem commandsBeforeResetFault : Obligations.CommandsBeforeResetFault := fun s hs =>
  ⟨exec_uninit .nop s hs nofun, exec_uninit .tick s hs nofun,
    exec_uninit .build s hs nofun, exec_uninit .consume s hs nofun⟩

end Sys2Proof.Machine

/-! ## The reset family (70_reset_and_hazards.md): a reset step -/

namespace Sys2Proof.Machine

/-- Settles O24: an unmarked state takes the event, and with `rst` driven `applyReset` alone says what is written:
the command word and the overlap bit are never looked at. -/
theorem resetStepStartsTheBlock : Obligations.ResetStepStartsTheBlock := by
  intro s r rest hmarked hpending hrst
  calc step s
      = runRequest r rest s := step_event s (.drive r) rest hmarked hpending
    _ = .next (s.present r rest).applyReset := runRequest_reset r rest s hrst

end Sys2Proof.Machine

/-! ## The encoding of command streams (30_encoding.md §2) -/

namespace Sys2Proof.Machine

theorem decodeWord_encodeWord (i : Instr) (h : i.wf = true) : decodeWord (encodeWord i) = i := by
  cases i with
  | nop => exact Laws.RoundTrip.nop h
  | tick => exact Laws.RoundTrip.tick h
  | build => exact Laws.RoundTrip.build h
  | consume => exact Laws.RoundTrip.consume h
  | reserved w => exact Laws.RoundTrip.reserved w h

theorem decodeStream_encodeStream (is : List Instr) (h : ∀ i ∈ is, i.wf = true) :
    decodeStream (encodeStream is) = is := by
  induction is with
  | nil => rfl
  | cons i is ih =>
    obtain ⟨hi, his⟩ := List.forall_mem_cons.1 h
    show decodeWord (encodeWord i) :: decodeStream (encodeStream is) = i :: is
    rw [decodeWord_encodeWord i hi, ih his]

theorem encodeStream_decodeStream (bytes : List Byte) : encodeStream (decodeStream bytes) = bytes := by
  induction bytes with
  | nil => rfl
  | cons w rest ih =>
    show encodeWord (decodeWord w) :: encodeStream (decodeStream rest) = w :: rest
    rw [encodeWord_decodeWord, ih]

theorem decodeStream_wf (bytes : List Byte) : ∀ i ∈ decodeStream bytes, i.wf = true := by
  induction bytes with
  | nil => exact nofun
  | cons w rest ih => exact List.forall_mem_cons.2 ⟨decodeWord_wf w, ih⟩

theorem decode_encode_append (i : Instr) (rest : List Byte) (h : i.wf = true) :
    decode (encode i ++ rest) = .ok (i, rest) := by
  show Except.ok (decodeWord (encodeWord i), rest) = .ok (i, rest)
  rw [decodeWord_encodeWord i h]

/-- Settles O1: both directions word by word, by induction on the stream. -/
theorem decodeAndEncodeAgree : Obligations.DecodeAndEncodeAgree :=
  ⟨decodeStream_encodeStream, fun bytes => ⟨encodeStream_decodeStream bytes, decodeStream_wf bytes⟩,
    decode_encode_append⟩

end Sys2Proof.Machine

/-! ## The planes after a TICK (10_state.md R25, 41_debounce.md §2) -/

namespace Sys2Proof.Machine

/-- A byte lies inside a mask when every bit of it is one of the mask's. -/
theorem and_not_eq_zero_iff (x mask : Byte) :
    x &&& ~~~ mask = 0x00#8 ↔ ∀ i, x.getLsbD i = true → mask.getLsbD i = true := by
  constructor
  · intro h i hx
    have hbit : (x &&& ~~~ mask).getLsbD i = false := by rw [h, BitVec.getLsbD_zero]
    have hi : i < 8 := BitVec.lt_of_getLsbD hx
    simpa [hx, hi] using hbit
  · intro h
    apply BitVec.eq_of_getLsbD_eq
    intro i hi
    rw [BitVec.getLsbD_and, BitVec.getLsbD_not, BitVec.getLsbD_zero]
    cases hx : x.getLsbD i with
    | false => rfl
    | true => simp [h i hx]

theorem and_mask_and_not (x mask : Byte) : (x &&& mask) &&& ~~~ mask = 0x00#8 := by
  rw [and_not_eq_zero_iff]
  intro i h
  rw [BitVec.getLsbD_and, Bool.and_eq_true] at h
  exact h.2

/-- Only lines of the mask can disagree: the sample is masked (R80), and so is the confirmed state. -/
theorem delta_masked (s : State) (h : s.conf &&& ~~~ s.params.buttonMask = 0x00#8) :
    (sampleButtons s ^^^ s.conf) &&& ~~~ s.params.buttonMask = 0x00#8 := by
  rw [and_not_eq_zero_iff] at h ⊢
  intro i hi
  cases hmask : s.params.buttonMask.getLsbD i with
  | true => rfl
  | false =>
    have hconf : s.conf.getLsbD i = true := by
      rwa [BitVec.getLsbD_xor, sampleButtons_getLsbD_of_not_mask s i hmask, Bool.false_xor] at hi
    exact hmask ▸ h i hconf

/-- R94, R95: the confirmed state after a TICK. -/
theorem ticked_conf (s : State) : s.ticked.conf =
    (s.conf ^^^ ((sampleButtons s ^^^ s.conf) &&& s.c1 &&& s.c0)) &&& s.params.buttonMask := rfl

/-- R93: the low counter bits after a TICK are gated by `delta`. -/
theorem ticked_c0 (s : State) : s.ticked.c0 = (sampleButtons s ^^^ s.conf) &&& ~~~ s.c0 := rfl

/-- R93: the high counter bits after a TICK are gated by `delta`. -/
theorem ticked_c1 (s : State) : s.ticked.c1 = (sampleButtons s ^^^ s.conf) &&& (s.c1 ^^^ s.c0) := rfl

/-- What is gated by a masked byte is masked. -/
theorem and_masked (x y mask : Byte) (h : x &&& ~~~ mask = 0x00#8) : (x &&& y) &&& ~~~ mask = 0x00#8 := by
  rw [BitVec.and_assoc, BitVec.and_comm y, ← BitVec.and_assoc, h, BitVec.zero_and]

/-- R25, first part: a TICK keeps the planes inside the mask. -/
theorem ticked_masked (s : State) (h : s.MaskedPlanes) : s.ticked.MaskedPlanes := by
  obtain ⟨-, -, hconf⟩ := h
  have hdelta := delta_masked s hconf
  exact ⟨and_masked _ _ _ hdelta, and_masked _ _ _ hdelta, and_mask_and_not _ _⟩

/-- Settles O8: outside the mask `conf` has no bit to lose, and inside it the mask changes nothing. -/
theorem confirmedStateChangesByFlipsInsideTheMask : Obligations.ConfirmedStateChangesByFlipsInsideTheMask := by
  rintro s hs ⟨-, -, hconf⟩ flip rfl
  refine ⟨s.ticked, exec_tick s hs, ticked_conf s, and_mask_and_not _ _, ?_⟩
  intro i hflip
  rw [ticked_conf, BitVec.getLsbD_and, BitVec.getLsbD_xor, hflip, Bool.xor_false, Bool.and_eq_left_iff_imp]
  exact (and_not_eq_zero_iff _ _).1 hconf i

/-- Settles O11: `delta` gates both counter bits (R93). -/
theorem countsAfterATickBelongToDisagreeingLines : Obligations.CountsAfterATickBelongToDisagreeingLines := by
  intro s hs
  refine ⟨s.ticked, exec_tick s hs, ?_⟩
  rw [and_not_eq_zero_iff]
  intro i hi
  rw [BitVec.getLsbD_or, ticked_c0_getLsbD, ticked_c1_getLsbD, ← Bool.and_or_distrib_left, Bool.and_eq_true] at hi
  exact hi.1

/-- Settles O5: the two functions are this formula by definition. -/
theorem tickIsAFunctionOfStateAndSample : Obligations.TickIsAFunctionOfStateAndSample := by
  rintro s hs raw delta flip rfl rfl rfl
  exact ⟨exec_tick s hs, rfl⟩

end Sys2Proof.Machine

/-! ## Reports and their bytes (42_report.md §1) -/

namespace Sys2Proof.Machine

/-- R111, R112 with the bytes of R114. -/
theorem axisValue_eq (negative positive : Bool) :
    axisValue negative positive = if negative then 0x9C#8 else if positive then 0x64#8 else 0x00#8 := by
  cases negative <;> cases positive <;> rfl

theorem axisValue_mem_axisBytes (negative positive : Bool) : axisValue negative positive ∈ axisBytes := by
  cases negative <;> cases positive <;> decide

/-- R121: BUILD can only build a legal report from a confirmed state inside the mask. -/
theorem buildReport_legal (j : Nibble) (conf mask : Byte) (h : conf &&& ~~~ mask = 0x00#8) :
    (buildReport j conf).Legal mask :=
  ⟨axisValue_mem_axisBytes _ _, axisValue_mem_axisBytes _ _, h⟩

/-- R82 on one line. -/
theorem sampleJoystick_getLsbD (s : State) (k : Nat) (hk : k < 4) :
    (sampleJoystick s).getLsbD k = !s.port.joyPin.getLsbD k := by
  have hones : (0xF#4 : Nibble) = BitVec.allOnes 4 := rfl
  rw [sampleJoystick, hones, BitVec.and_allOnes, BitVec.getLsbD_not]
  simp [hk]

theorem directionBit_lt (d : Direction) : directionBit d < 4 := by
  cases d <;> decide

theorem asserted_sampleJoystick (s : State) (d : Direction) :
    asserted (sampleJoystick s) d = !s.port.joyPin.getLsbD (directionBit d) :=
  sampleJoystick_getLsbD s _ (directionBit_lt d)

/-- Settles O33: each direction is one inverted line; the corner cases compute. -/
theorem joystickSampleIsActiveLow : Obligations.JoystickSampleIsActiveLow := by
  refine fun s => ⟨asserted_sampleJoystick s, ?_, ?_, ?_⟩ <;>
  · intro h
    rw [sampleJoystick, h]
    decide

/-- Settles O13: each axis of the built report is `axisValue` of its two directions. -/
theorem axesFollowDirectionPriority : Obligations.AxesFollowDirectionPriority := by
  rintro s hs hcap j rfl
  exact ⟨s.built, buildReport (sampleJoystick s) s.conf, exec_build s hs hcap, State.deliver_rpt s _,
    axisValue_eq _ _, axisValue_eq _ _⟩

/-- R112 in the pins: a direction is asserted by a low pin. -/
theorem reportX_sampleJoystick (s : State) : reportX (sampleJoystick s) =
    if s.port.joyPin.getLsbD 2 = false then 0x9C#8
      else if s.port.joyPin.getLsbD 3 = false then 0x64#8 else 0x00#8 := by
  simp [reportX, axisValue_eq, asserted_sampleJoystick, directionBit]

/-- R111 in the pins. -/
theorem reportY_sampleJoystick (s : State) : reportY (sampleJoystick s) =
    if s.port.joyPin.getLsbD 0 = false then 0x9C#8
      else if s.port.joyPin.getLsbD 1 = false then 0x64#8 else 0x00#8 := by
  simp [reportY, axisValue_eq, asserted_sampleJoystick, directionBit]

/-- Settles O12: BUILD delivers the report of its sample, and a delivery writes these four fields. -/
theorem buildDeliversTheReport : Obligations.BuildDeliversTheReport := by
  intro s hs hcap x y hx hy
  rw [← reportX_sampleJoystick] at hx
  rw [← reportY_sampleJoystick] at hy
  subst hx hy
  exact exec_build s hs hcap

/-- R40: the bytes of a delivered report, in order, at the buffer's address. -/
theorem deliver_read_bytes (s : State) (r : Report) (k : Nat) (hk : k < r.bytes.length) :
    (s.deliver r).mem.read (s.port.outBuffer + k) = some r.bytes[k] :=
  Memory.read_writeBytes_inside r.bytes s.mem s.port.outBuffer k hk

/-- Settles O16: both states deliver the report of the same sample and the same confirmed state. -/
theorem reportDependsOnSampleAndConfirmedStateOnly : Obligations.ReportDependsOnSampleAndConfirmedStateOnly := by
  intro s u hs hu hscap hucap hsample hconf
  refine ⟨s.built, u.built, exec_build s hs hscap, exec_build u hu hucap, ?_, rfl, ?_⟩
  · rw [State.built, State.built, State.deliver_rpt, State.deliver_rpt, hsample, hconf]
  · intro k hk
    rw [State.built, State.built, hsample, hconf, deliver_read_bytes _ _ k hk, deliver_read_bytes _ _ k hk]

/-- Settles O31: `observeReport` matches on `rpt_valid` and `rpt`. -/
theorem reportIsObservedOnlyWhenValid : Obligations.ReportIsObservedOnlyWhenValid := by
  intro s
  constructor
  · intro hvalid
    simp [State.observeReport, hvalid]
  · intro r hvalid hrpt
    simp [State.observeReport, hvalid, hrpt]

end Sys2Proof.Machine

/-! ## What a command and a step leave unchanged (10_state.md R20) -/

namespace Sys2Proof.Machine

/-- The fields that no command writes. -/
theorem exec_next_frame (i : Instr) (s t : State) (h : exec i s = .next t) :
    t.params = s.params ∧ t.init = s.init ∧ t.fault = s.fault ∧ t.refused = s.refused ∧
      t.port = s.port ∧ t.pending = s.pending ∧ t.draws = s.draws := by
  obtain ⟨-, ⟨rfl, rfl⟩ | ⟨rfl, rfl⟩ | ⟨rfl, rfl⟩ | ⟨rfl, -, rfl⟩⟩ := exec_next_cases i s t h <;>
    exact ⟨rfl, rfl, rfl, rfl, rfl, rfl, rfl⟩

/-- Only TICK writes the planes (R116, R118, R119). -/
theorem exec_next_planes (i : Instr) (s t : State) (h : exec i s = .next t) (hi : i ≠ .tick) :
    t.c0 = s.c0 ∧ t.c1 = s.c1 ∧ t.conf = s.conf := by
  obtain ⟨-, ⟨rfl, rfl⟩ | ⟨rfl, rfl⟩ | ⟨rfl, rfl⟩ | ⟨rfl, -, rfl⟩⟩ := exec_next_cases i s t h
  · exact ⟨rfl, rfl, rfl⟩
  · exact ⟨rfl, rfl, rfl⟩
  · exact absurd rfl hi
  · exact ⟨rfl, rfl, rfl⟩

/-- Only BUILD writes the report, the outputs and host memory (R102, R118, R119). -/
theorem exec_next_report (i : Instr) (s t : State) (h : exec i s = .next t) (hi : i ≠ .build) :
    t.rpt = s.rpt ∧ t.rptValid = s.rptValid ∧ t.outputs = s.outputs ∧ t.mem = s.mem := by
  obtain ⟨-, ⟨rfl, rfl⟩ | ⟨rfl, rfl⟩ | ⟨rfl, rfl⟩ | ⟨rfl, -, rfl⟩⟩ := exec_next_cases i s t h
  · exact ⟨rfl, rfl, rfl, rfl⟩
  · exact ⟨rfl, rfl, rfl, rfl⟩
  · exact ⟨rfl, rfl, rfl, rfl⟩
  · exact absurd rfl hi

/-- R46: BUILD writes no byte of host memory outside its three. -/
theorem exec_build_read_outside (s t : State) (h : exec .build s = .next t) (a : Nat)
    (ha : a < s.port.outBuffer ∨ s.port.outBuffer + 3 ≤ a) : t.mem.read a = s.mem.read a := by
  obtain ⟨-, ⟨hi, -⟩ | ⟨hi, -⟩ | ⟨hi, -⟩ | ⟨-, -, rfl⟩⟩ := exec_next_cases .build s t h
  · cases hi
  · cases hi
  · cases hi
  · exact deliver_read_outside s _ a ha

/-- Settles O22: the frames of the commands, together. -/
theorem commandsKeepWhatTheyDoNotWrite : Obligations.CommandsKeepWhatTheyDoNotWrite := by
  intro i s t h
  refine ⟨exec_next_frame i s t h, exec_next_planes i s t h, fun hi => ?_, ?_⟩
  · obtain ⟨hrpt, hvalid, houtputs, hmem⟩ := exec_next_report i s t h hi
    exact ⟨hrpt, hvalid, houtputs, fun a => by rw [hmem]⟩
  · rintro rfl
    exact exec_build_read_outside s t h

/-- R62: a command is decoded from its own word only. -/
theorem decodeWord_ne (w : Byte) (i : Instr) (h : w ≠ encodeWord i) : decodeWord w ≠ i := by
  rintro rfl
  exact h (encodeWord_decodeWord w).symm

/-- The fields of the block that no step writes: the parameters (R28) and the marks. -/
theorem step_next_frame (s t : State) (h : step s = .next t) :
    t.params = s.params ∧ t.fault = s.fault ∧ t.refused = s.refused := by
  obtain ⟨-, ⟨-, rfl⟩ | ⟨e, rest, -, rfl⟩ | ⟨rest, -, rfl⟩ | ⟨r, rest, -, -, rfl⟩ |
    ⟨r, rest, -, -, -, hx⟩⟩ := step_next_cases s t h
  · exact ⟨rfl, rfl, rfl⟩
  · exact ⟨rfl, rfl, rfl⟩
  · exact ⟨rfl, rfl, rfl⟩
  · exact ⟨rfl, rfl, rfl⟩
  · obtain ⟨hparams, -, hfault, hrefused, -⟩ := exec_next_frame _ _ _ hx
    exact ⟨hparams, hfault, hrefused⟩

theorem marked_of_step_next (s t : State) (h : step s = .next t) : s.marked = false :=
  (step_next_cases s t h).1

/-- A driven step without reset is the decoded command, subject to the overlap check (R134). -/
theorem step_command (s : State) (r : Request) (rest : List Event) (hm : s.marked = false)
    (hp : s.pending = .drive r :: rest) (hr : r.rst = false) :
    step s = refuseOverlap r (exec (decodeWord r.cmd) (s.present r rest)) := by
  rw [step_event s _ rest hm hp]
  exact runRequest_command r rest s hr

/-- A driven step without reset that completes is a command that completes. -/
theorem step_command_next (s t : State) (r : Request) (rest : List Event) (h : step s = .next t)
    (hp : s.pending = .drive r :: rest) (hr : r.rst = false) :
    exec (decodeWord r.cmd) (s.present r rest) = .next t := by
  rw [step_command s r rest (marked_of_step_next s t h) hp hr, refuseOverlap_next] at h
  exact h.1

theorem step_lifecycle (s : State) (e : Lifecycle) (rest : List Event) (hm : s.marked = false)
    (hp : s.pending = .lifecycle e :: rest) : step s = .next (s.passEvent rest) :=
  step_event s _ rest hm hp

theorem step_powerLoss (s : State) (rest : List Event) (hm : s.marked = false)
    (hp : s.pending = .powerLoss :: rest) : step s = .next (s.passEvent rest).losePower :=
  step_event s _ rest hm hp

theorem step_reset (s : State) (r : Request) (rest : List Event) (hm : s.marked = false)
    (hp : s.pending = .drive r :: rest) (hr : r.rst = true) :
    step s = .next (s.present r rest).applyReset :=
  resetStepStartsTheBlock s r rest hm hp hr

/-- Settles O23: the frames of the decoded command, and what the other events do. -/
theorem fieldsChangeOnlyByTheirWriters : Obligations.FieldsChangeOnlyByTheirWriters := by
  intro s t h
  have hm := marked_of_step_next s t h
  obtain ⟨hparams, hfault, hrefused⟩ := step_next_frame s t h
  refine ⟨hparams, hfault, hrefused, ?_, ?_, ?_⟩
  · intro r rest hp hr
    have hx := step_command_next s t r rest h hp hr
    obtain ⟨-, hinit, -⟩ := exec_next_frame _ (s.present r rest) t hx
    refine ⟨hinit, fun hw => ?_, fun hw => ?_⟩
    · exact exec_next_planes _ (s.present r rest) t hx (decodeWord_ne r.cmd .tick hw)
    · obtain ⟨hrpt, hvalid, -, hmem⟩ := exec_next_report _ (s.present r rest) t hx (decodeWord_ne r.cmd .build hw)
      exact ⟨hrpt, hvalid, hmem⟩
  · intro e rest hp
    rw [step_lifecycle s e rest hm hp] at h
    cases h
    rfl
  · intro hp
    rw [step_idle s hm hp] at h
    cases h
    rfl

/-- Settles O30: one equation of `step` for each of the three events. -/
theorem quietStepsAndPowerLoss : Obligations.QuietStepsAndPowerLoss := fun s hm =>
  ⟨step_idle s hm, fun e rest hp => step_lifecycle s e rest hm hp, fun rest hp =>
    ⟨_, step_powerLoss s rest hm hp, rfl, rfl, rfl, rfl, rfl, rfl⟩⟩

end Sys2Proof.Machine

/-! ## Driven steps and their marks (60_exceptions.md) -/

namespace Sys2Proof.Machine

theorem refuseOverlap_of_not_overlapping (r : Request) (o : Result) (h : r.overlapping = false) :
    refuseOverlap r o = o := by
  cases o <;> simp [refuseOverlap, h]

theorem refuseOverlap_of_overlapping (r : Request) (t : State) (h : r.overlapping = true) :
    refuseOverlap r (.next t) = .refused .overlap := by
  simp [refuseOverlap, refuse, h]

/-- Settles O3: the overlap check passes on how the command ends, and refuses only one that completes. -/
theorem stepRunsTheDecodedCommand : Obligations.StepRunsTheDecodedCommand := by
  intro s r rest hm hp hr
  have hstep := step_command s r rest hm hp hr
  refine ⟨fun ho => ?_, fun ho => ⟨fun t hx => ?_, fun f hx => ?_, fun f hx => ?_⟩⟩
  · rw [hstep, refuseOverlap_of_not_overlapping r _ ho]
    rfl
  · exact hstep.trans (hx ▸ refuseOverlap_of_overlapping r t ho)
  · exact hstep.trans (congrArg (refuseOverlap r) hx)
  · exact hstep.trans (congrArg (refuseOverlap r) hx)

/-- Settles O4: the placed request drives no reset and does not overlap. -/
theorem placedWordRunsNext : Obligations.PlacedWordRunsNext := by
  intro s w hm hw
  have hword : w % 2 ^ 8 = w := Nat.mod_eq_of_lt hw
  rw [State.withFetchWord, hword]
  exact (stepRunsTheDecodedCommand (s.issueWord (BitVec.ofNat 8 w)) _ s.pending hm rfl rfl).1 rfl

/-- Settles O19: NOP after a reset answers the state it is given. -/
theorem nopChangesNothing : Obligations.NopChangesNothing := exec_nop

/-- R130, R131: a marked state answers its mark again, so recording it changes nothing. -/
theorem advance_marked (s : State) (h : s.marked = true) : advance s = s := by
  obtain ⟨p, c0, c1, conf, rpt, valid, init, fault, refused, o, m, port, q, d⟩ := s
  cases fault with
  | some f => rfl
  | none =>
    cases refused with
    | some f => rfl
    | none => cases h

/-- Settles O28: `settle` writes the mark and nothing else, and a mark is answered before any event is looked at. -/
theorem stoppedStepsLeaveOnlyAStickyMark : Obligations.StoppedStepsLeaveOnlyAStickyMark := by
  intro s
  refine ⟨fun f _ h => ?_, fun f _ h => ?_, fun hm => ⟨advance_marked s hm, fun t => step_marked s t hm⟩⟩
  · rw [advance, h]
    exact ⟨rfl, rfl⟩
  · rw [advance, h]
    exact ⟨rfl, Bool.or_true _⟩

/-- R62, R63: a word of the opcode map spells a command. -/
theorem decodeWord_ne_reserved (w : Byte) (hw : w < 0x04#8) (b : Byte) : decodeWord w ≠ .reserved b := by
  intro h
  have hwf := decodeWord_wf w
  rw [h] at hwf
  have hb : w = b := by rw [← encodeWord_decodeWord w, h, encodeWord]
  have hle : 0x04#8 ≤ b := of_decide_eq_true hwf
  bv_omega

/-- Settles O29: each clause is one case of the decoded command, in the order in which it is looked at. -/
theorem marksFollowTheCheckOrder : Obligations.MarksFollowTheCheckOrder := by
  intro s r rest hm hp
  have hstep := step_command s r rest hm hp
  refine ⟨fun hr => ⟨_, step_reset s r rest hm hp hr, rfl⟩, fun hr hw => ?_, fun hr hw hi => ?_,
    fun hr hw hi hcap => ?_, fun hr hw hi hcap ho => ?_, fun hr hw hi hcap ho => ?_⟩
  · rw [hstep hr, decodeWord_reserved r.cmd hw, exec_reserved, refuseOverlap]
  · rw [hstep hr, exec_uninit _ (s.present r rest) hi (decodeWord_ne_reserved r.cmd hw), refuseOverlap]
  · have hx := exec_build_short (s.present r rest) hi hcap
    rw [hstep hr, hw]
    exact congrArg (refuseOverlap r) hx
  · obtain ⟨t, hx⟩ := exec_completes r.cmd (s.present r rest) hw hi hcap
    rw [hstep hr, hx, refuseOverlap_of_overlapping r t ho]
  · obtain ⟨t, hx⟩ := exec_completes r.cmd (s.present r rest) hw hi hcap
    exact ⟨t, by rw [hstep hr, refuseOverlap_next]; exact ⟨hx, ho⟩⟩

end Sys2Proof.Machine

/-! ## What is not read (40_sampler.md R85, 10_state.md R29, R30, R32) -/

namespace Sys2Proof.Machine

/-- Settles O34: each command commutes with a change of the pins that it does not sample. -/
theorem pinsAreReadOnlyWhereSampled : Obligations.PinsAreReadOnlyWhereSampled := fun s b j =>
  ⟨exec_commutes (·.withJoystickPins j) .tick s rfl rfl (fun _ => rfl) nofun,
    exec_commutes (·.withButtonPins b) .build s rfl rfl nofun (fun _ => rfl),
    exec_commutes (fun t => (t.withJoystickPins j).withButtonPins b) .consume s rfl rfl nofun nofun,
    exec_commutes (fun t => (t.withJoystickPins j).withButtonPins b) .nop s rfl rfl nofun nofun⟩

/-- Two states with the same marks step alike where they do so unmarked. -/
theorem step_congr_of_marks (s u : State) (hf : u.fault = s.fault) (hr : u.refused = s.refused)
    (h : s.marked = false → step u = step s) : step u = step s := by
  cases hfs : s.fault with
  | some f => rw [step_of_fault s f hfs, step_of_fault u f (hf.trans hfs)]
  | none =>
    cases hrs : s.refused with
    | some f => rw [step_of_refused s f hfs hrs, step_of_refused u f (hf.trans hfs) (hr.trans hrs)]
    | none => exact h ((marked_eq_false_iff s).2 ⟨hfs, hrs⟩)

/-- R30: a driven step begins by clearing the outputs of the step before. -/
theorem step_drive_outputs (s : State) (o : Option Outputs) (r : Request) (rest : List Event)
    (hp : s.pending = .drive r :: rest) : step { s with outputs := o } = step s := by
  refine step_congr_of_marks s _ rfl rfl fun hm => ?_
  rw [step_event s _ rest hm hp, step_event { s with outputs := o } _ rest hm hp]
  rfl

/-- Settles O35: the outputs are cleared before they could be read, and no command but TICK reads a counter. -/
theorem outputsAndCountersAreHidden : Obligations.OutputsAndCountersAreHidden :=
  ⟨step_drive_outputs, fun s i a b hi =>
    exec_commutes (fun t => { t with c0 := a, c1 := b }) i s rfl rfl (fun h => absurd h hi) (fun _ => rfl)⟩

end Sys2Proof.Machine

/-! ## The invariant (10_state.md R25, R26, R29; 42_report.md R114, R121) -/

namespace Sys2Proof.Machine

/-! ### What each update of a step does to it -/

theorem State.Inv.passEvent {s : State} (h : s.Inv) (rest : List Event) : (s.passEvent rest).Inv :=
  ⟨h.mem_wf, h.masked, h.valid_iff, h.uninit, h.legal, h.driven, h.one_mark⟩

/-- A driven step is over with the outputs of the step before (R30). -/
theorem State.Inv.present {s : State} (h : s.Inv) (r : Request) (rest : List Event) : (s.present r rest).Inv :=
  ⟨h.mem_wf, h.masked, h.valid_iff, h.uninit, h.legal, .inl rfl, h.one_mark⟩

/-- A power loss leaves no known byte, no report and no outputs, and planes that nothing reads. -/
theorem State.Inv.losePower {s : State} (h : s.Inv) : s.losePower.Inv :=
  ⟨Memory.wf_nil, nofun, rfl, fun _ => rfl, nofun, .inl rfl, h.one_mark⟩

/-- After a reset the planes are zero, inside every mask, and there is no report. -/
theorem State.Inv.applyReset {s : State} (h : s.Inv) : s.applyReset.Inv :=
  ⟨h.mem_wf, fun _ => ⟨BitVec.zero_and, BitVec.zero_and, BitVec.zero_and⟩, rfl, nofun, nofun, h.driven, h.one_mark⟩

theorem State.Inv.ticked {s : State} (h : s.Inv) : s.ticked.Inv :=
  ⟨h.mem_wf, fun hi => ticked_masked s (h.masked hi), h.valid_iff, h.uninit, h.legal, h.driven, h.one_mark⟩

/-- BUILD after a reset stores a report that it can build, and drives its outputs. -/
theorem State.Inv.built {s : State} (h : s.Inv) (hi : s.init = true) : s.built.Inv where
  mem_wf := Memory.wf_writeBytes _ _ _ h.mem_wf
  masked := h.masked
  valid_iff := rfl
  uninit := fun hu => absurd (hu.symm.trans hi) Bool.false_ne_true
  legal := by
    rintro r ⟨⟩
    obtain ⟨-, -, hconf⟩ := h.masked hi
    exact buildReport_legal _ _ _ hconf
  driven := .inr rfl
  one_mark := h.one_mark

/-! ### Commands and steps -/

theorem exec_keeps_inv (i : Instr) (s t : State) (h : s.Inv) (hx : exec i s = .next t) : t.Inv := by
  obtain ⟨hi, ⟨-, rfl⟩ | ⟨-, rfl⟩ | ⟨-, rfl⟩ | ⟨-, -, rfl⟩⟩ := exec_next_cases i s t hx
  · exact h
  · exact h
  · exact h.ticked
  · exact h.built hi

/-- Settles O27: each of the five things a step can do keeps it. -/
theorem everyStepKeepsTheInvariant : Obligations.EveryStepKeepsTheInvariant := by
  intro s t h hs
  obtain ⟨-, ⟨-, rfl⟩ | ⟨e, rest, -, rfl⟩ | ⟨rest, -, rfl⟩ | ⟨r, rest, -, -, rfl⟩ |
    ⟨r, rest, -, -, -, hx⟩⟩ := step_next_cases s t hs
  · exact h
  · exact h.passEvent rest
  · exact (h.passEvent rest).losePower
  · exact (h.present r rest).applyReset
  · exact exec_keeps_inv _ _ t (h.present r rest) hx

/-- Settles O26: no plane, report, output, mark or byte stands there. -/
theorem resetMeetsTheInvariant : Obligations.ResetMeetsTheInvariant where
  mem_wf := Memory.wf_nil
  masked := fun _ => ⟨BitVec.zero_and, BitVec.zero_and, BitVec.zero_and⟩
  valid_iff := rfl
  uninit := nofun
  legal := nofun
  driven := .inl rfl
  one_mark := .inl rfl

/-- Settles O25: every value is a field of `State.reset`. -/
theorem stateAfterReset : Obligations.StateAfterReset :=
  ⟨rfl, rfl, rfl, rfl, rfl, rfl, rfl, rfl, rfl, rfl⟩

end Sys2Proof.Machine

/-! ## One line under a TICK (41_debounce.md R92 to R98) -/

namespace Sys2Proof.Machine

/-- R93: an agreeing line is stable after the TICK, and keeps its confirmed bit. -/
theorem lineRow_agree (l : Line) : lineRow l l.confirmed = ⟨.stable, l.confirmed⟩ := by
  obtain ⟨c, b⟩ := l
  cases c <;> cases b <;> rfl

/-- R92: a disagreeing line counts up modulo 4. -/
theorem lineRow_count_disagree (l : Line) (raw : Bool) (h : raw ≠ l.confirmed) :
    (lineRow l raw).count.toNat = (l.count.toNat + 1) % 4 := by
  rw [lineRow_count, if_neg h]

/-- R94: a disagreeing line takes the raw value exactly at count 3. -/
theorem lineRow_confirmed_disagree (l : Line) (raw : Bool) (h : raw ≠ l.confirmed) :
    (lineRow l raw).confirmed = if l.count.toNat = 3 then raw else l.confirmed := by
  simp [lineRow_confirmed, h]

/-- Settles O10: inside the mask a TICK takes the line's row for the inverted pin. -/
theorem everyLineFollowsTheSixteenRows : Obligations.EveryLineFollowsTheSixteenRows := by
  intro s i hs hmask
  refine ⟨s.ticked, exec_tick s hs, ?_⟩
  rw [ticked_line s i hmask, sampleButtons_getLsbD_of_mask s i hmask]

/-- Settles O7: a set `delta` bit is a raw bit that differs from the confirmed one. -/
theorem disagreeingLinesCountAndFlipAtThree : Obligations.DisagreeingLinesCountAndFlipAtThree := by
  intro s i hs hmask hdelta
  have hne : (sampleButtons s).getLsbD i ≠ (s.line i).confirmed := by
    rw [BitVec.getLsbD_xor] at hdelta
    exact bne_iff_ne.1 hdelta
  refine ⟨s.ticked, exec_tick s hs, ?_, ?_⟩
  · rw [ticked_line s i hmask, lineRow_count_disagree _ _ hne]
  · rw [ticked_line s i hmask, lineRow_confirmed_disagree _ _ hne]
    by_cases h3 : (s.line i).count.toNat = 3 <;> simp [h3, hne]

/-- A line whose planes are zero. -/
theorem applyReset_line (s : State) (i : Nat) : s.applyReset.line i = ⟨.stable, false⟩ := by
  simp [State.line, LineCount.ofBits]

end Sys2Proof.Machine

/-! ## A line's history along steps and runs (41_debounce.md R98) -/

namespace Sys2Proof.Machine

/-! ### What a step adds to a history -/

/-- What a TICK that samples `raw` did with line `l`. -/
def Line.tickOf (l : Line) (raw : Bool) : LineTick :=
  ⟨raw ^^ l.confirmed, (lineRow l raw).confirmed ^^ l.confirmed⟩

section

variable (i : Nat) (s t : State) (h : List LineTick)

theorem extendHistory_idle (hp : s.pending = []) : extendHistory i s t h = h := by
  simp [extendHistory, hp]

theorem extendHistory_lifecycle (e : Lifecycle) (rest : List Event) (hp : s.pending = .lifecycle e :: rest) :
    extendHistory i s t h = h := by
  simp [extendHistory, hp]

theorem extendHistory_powerLoss (rest : List Event) (hp : s.pending = .powerLoss :: rest) :
    extendHistory i s t h = [] := by
  simp [extendHistory, hp]

theorem extendHistory_reset (r : Request) (rest : List Event) (hp : s.pending = .drive r :: rest)
    (hr : r.rst = true) : extendHistory i s t h = [] := by
  simp [extendHistory, hp, hr]

theorem extendHistory_no_tick (r : Request) (rest : List Event) (hp : s.pending = .drive r :: rest)
    (hr : r.rst = false) (ht : r.ticks = false) : extendHistory i s t h = h := by
  simp [extendHistory, hp, hr, ht]

theorem extendHistory_tick (r : Request) (rest : List Event) (hp : s.pending = .drive r :: rest)
    (hr : r.rst = false) (ht : r.ticks = true)
    (hline : t.line i = lineRow (s.line i) ((Event.drive r).raw s.params.buttonMask i)) :
    extendHistory i s t h = (s.line i).tickOf ((Event.drive r).raw s.params.buttonMask i) :: h := by
  have hconf : t.conf.getLsbD i =
      (lineRow (s.line i) ((Event.drive r).raw s.params.buttonMask i)).confirmed :=
    congrArg Line.confirmed hline
  simp only [extendHistory, hp, hr, ht, hconf]
  rfl

end

theorem ticks_iff_decodeWord (r : Request) (hr : r.rst = false) : r.ticks = true ↔ decodeWord r.cmd = .tick := by
  simp [Request.ticks, hr, decodeWord_eq_tick]

/-- Everything a step that completes can do to a line of the mask and its history. -/
theorem step_history_cases (i : Nat) (s t : State) (hmask : s.params.buttonMask.getLsbD i = true)
    (hs : step s = .next t) :
    (t.init = s.init ∧ t.line i = s.line i ∧ ∀ h, extendHistory i s t h = h) ∨
    ((t.init = true → (t.line i).count = .stable) ∧ ∀ h, extendHistory i s t h = []) ∨
    (s.init = true ∧ ∃ raw, t.line i = lineRow (s.line i) raw ∧
      ∀ h, extendHistory i s t h = (s.line i).tickOf raw :: h) := by
  obtain ⟨-, ⟨hp, rfl⟩ | ⟨e, rest, hp, rfl⟩ | ⟨rest, hp, rfl⟩ | ⟨r, rest, hp, hr, rfl⟩ |
    ⟨r, rest, hp, hr, -, hx⟩⟩ := step_next_cases s t hs
  · exact .inl ⟨rfl, rfl, fun h => extendHistory_idle i _ _ h hp⟩
  · exact .inl ⟨rfl, rfl, fun h => extendHistory_lifecycle i s _ h e rest hp⟩
  · exact .inr (.inl ⟨nofun, fun h => extendHistory_powerLoss i s _ h rest hp⟩)
  · exact .inr (.inl ⟨fun _ => congrArg Line.count (applyReset_line _ i),
      fun h => extendHistory_reset i s _ h r rest hp hr⟩)
  · by_cases ht : decodeWord r.cmd = .tick
    · obtain ⟨hi, -⟩ := exec_next_cases _ _ _ hx
      rw [ht, exec_tick _ hi] at hx
      cases hx
      have hline := ticked_line (s.present r rest) i hmask
      exact .inr (.inr ⟨hi, _, hline,
        fun h => extendHistory_tick i s _ h r rest hp hr ((ticks_iff_decodeWord r hr).2 ht) hline⟩)
    · have hticks : r.ticks = false := Bool.eq_false_iff.2 fun h => ht ((ticks_iff_decodeWord r hr).1 h)
      obtain ⟨-, hinit, -⟩ := exec_next_frame _ (s.present r rest) t hx
      exact .inl ⟨hinit, exec_next_line _ (s.present r rest) t i hx ht,
        fun h => extendHistory_no_tick i s t h r rest hp hr hticks⟩

/-! ### The count of a history -/

theorem Line.tickOf_agree (l : Line) : l.tickOf l.confirmed = ⟨false, false⟩ := by
  simp [Line.tickOf, lineRow_agree]

theorem Line.tickOf_disagree (l : Line) (raw : Bool) (h : raw ≠ l.confirmed) :
    l.tickOf raw = ⟨true, decide (l.count.toNat = 3)⟩ := by
  have hdelta : (raw ^^ l.confirmed) = true := bne_iff_ne.2 h
  rw [Line.tickOf, lineRow_confirmed_disagree l raw h, hdelta]
  by_cases h3 : l.count.toNat = 3 <;> simp [h3, h]

/-- R98 for one TICK: from the count of its history a line goes to the count of the longer one, and it flips exactly
when that makes a run of 4. -/
theorem lineRow_history (l : Line) (raw : Bool) (h : List LineTick) (hl : l.count.toNat = runBefore h) :
    (lineRow l raw).count.toNat = runBefore (l.tickOf raw :: h) ∧
      ((l.tickOf raw).flip = true ↔ disagreeingRun (l.tickOf raw :: h) = 4) := by
  by_cases hraw : raw = l.confirmed
  · subst hraw
    rw [Line.tickOf_agree, lineRow_agree]
    exact ⟨rfl, nofun, nofun⟩
  · have hlt := l.count.toNat_lt
    rw [Line.tickOf_disagree l raw hraw, lineRow_count_disagree l raw hraw]
    simp only [runBefore, disagreeingRun, ← hl]
    by_cases h3 : l.count.toNat = 3
    · simp [h3]
    · have hmod : (l.count.toNat + 1) % 4 = l.count.toNat + 1 := Nat.mod_eq_of_lt (by omega)
      simp [h3, hmod]

/-- The latest TICK of a history flipped its line exactly when it ended a run of 4. -/
def FlipsAtFour (h : List LineTick) : Prop :=
  ∀ e h', h = e :: h' → (e.flip = true ↔ disagreeingRun h = 4)

/-- One step of R98: the count stays that of the history, and a TICK in the step flips at a run of 4. -/
theorem step_keeps_history (i : Nat) (s t : State) (h : List LineTick)
    (hmask : s.params.buttonMask.getLsbD i = true) (hcount : s.CountMatches i h) (hs : step s = .next t) :
    t.CountMatches i (extendHistory i s t h) ∧
      (extendHistory i s t h = h ∨ FlipsAtFour (extendHistory i s t h)) := by
  obtain ⟨hinit, hline, hh⟩ | ⟨hstable, hh⟩ | ⟨hinit, raw, hline, hh⟩ := step_history_cases i s t hmask hs
  · rw [hh]
    exact ⟨fun hi => hline ▸ hcount (hinit ▸ hi), .inl rfl⟩
  · rw [hh]
    exact ⟨fun hi => hstable hi ▸ rfl, .inr nofun⟩
  · obtain ⟨hcount', hflip⟩ := lineRow_history (s.line i) raw h (hcount hinit)
    rw [hh]
    refine ⟨fun _ => hline ▸ hcount', .inr ?_⟩
    rintro e h' ⟨⟩
    exact hflip

/-- Settles O44: a history with a TICK more is not the history before. -/
theorem everyStepKeepsTheCountOfTheHistory : Obligations.EveryStepKeepsTheCountOfTheHistory := by
  intro i s t h hmask hcount hs
  obtain ⟨hcount', hflips⟩ := step_keeps_history i s t h hmask hcount hs
  refine ⟨hcount', fun e he => ?_⟩
  rw [he] at hflips
  rcases hflips with hsame | hflips
  · exact absurd hsame (List.cons_ne_self e h)
  · exact hflips e h rfl

/-- Settles O45: the planes are zero there. -/
theorem resetStartsTheHistory : Obligations.ResetStartsTheHistory := fun i _ =>
  congrArg (fun l : Line => l.count.toNat) (applyReset_line State.reset i)

/-! ### Along a run -/

/-- What every step of a watched run keeps, of its state and its history, holds where the run ends. -/
theorem runWatching_keeps (i : Nat) (P : State → List LineTick → Prop)
    (hstep : ∀ s t h, P s h → step s = .next t → P t (extendHistory i s t h)) (n : Nat) (s t : State)
    (h h' : List LineTick) (hP : P s h) (hrun : runWatching i n s h = some (t, h')) : P t h' := by
  induction n generalizing s h with
  | zero =>
    cases hrun
    exact hP
  | succ n ih =>
    cases hs : step s with
    | next u =>
      rw [runWatching, hs] at hrun
      exact ih u _ (hstep s u h hP hs) hrun
    | fault f =>
      rw [runWatching, hs] at hrun
      cases hrun
    | refused f =>
      rw [runWatching, hs] at hrun
      cases hrun

/-- What R98 says of a state and the history of one of its lines, for every step of a run to keep. -/
structure HistoryMatches (i : Nat) (s : State) (h : List LineTick) : Prop where
  inside : s.params.buttonMask.getLsbD i = true
  count : s.CountMatches i h
  flips : FlipsAtFour h

theorem step_keeps_historyMatches (i : Nat) (s t : State) (h : List LineTick) (hm : HistoryMatches i s h)
    (hs : step s = .next t) : HistoryMatches i t (extendHistory i s t h) := by
  obtain ⟨hparams, -⟩ := step_next_frame s t hs
  obtain ⟨hcount, hflips⟩ := step_keeps_history i s t h hm.inside hm.count hs
  exact ⟨hparams ▸ hm.inside, hcount, hflips.elim (fun hsame => by rw [hsame]; exact hm.flips) id⟩

/-- R98's `r_k` counts the latest TICK even where it flipped, so it is the count but for that one multiple of 4. -/
theorem disagreeingRun_mod_four (h : List LineTick) (hlt : runBefore h < 4) (hf : FlipsAtFour h) :
    runBefore h = disagreeingRun h % 4 := by
  cases h with
  | nil => rfl
  | cons e h =>
    have hflip := hf e h rfl
    by_cases hd : e.delta = true
    · by_cases hfl : e.flip = true
      · rw [hflip.1 hfl]
        simp [runBefore, hfl]
      · have hrun : runBefore (e :: h) = disagreeingRun (e :: h) := by simp [runBefore, disagreeingRun, hd, hfl]
        rw [← hrun, Nat.mod_eq_of_lt hlt]
    · simp [runBefore, disagreeingRun, hd]

/-- Settles O39: the run keeps R98's statement about the line, from the empty history on. -/
theorem countIsTheRunOfDisagreeingTicks : Obligations.CountIsTheRunOfDisagreeingTicks := by
  intro i n s t h _ hmask hstable hrun hinit
  have hstart : HistoryMatches i s [] := ⟨hmask, fun _ => hstable ▸ rfl, nofun⟩
  have hend := runWatching_keeps i (HistoryMatches i) (step_keeps_historyMatches i) n s t [] h hstart hrun
  have hcount := hend.count hinit
  have hlt : runBefore h < 4 := hcount ▸ (t.line i).count.toNat_lt
  exact ⟨hcount.trans (disagreeingRun_mod_four h hlt hend.flips), hend.flips⟩

end Sys2Proof.Machine

/-! ## Runs of events within the contract (60_exceptions.md R142; 41_debounce.md R99 to R101) -/

namespace Sys2Proof.Machine

/-- An event within the contract completes, and leaves a state that can take the next one. -/
theorem contract_event_step (s : State) (e : Event) (rest : List Event) (hm : s.marked = false)
    (hi : s.init = true) (hp : s.pending = e :: rest) (hk : e.keepsContract = true) :
    ∃ t, step s = .next t ∧ t.marked = false ∧ t.init = true ∧ t.pending = rest := by
  cases e with
  | powerLoss => cases hk
  | lifecycle e => exact ⟨_, step_lifecycle s e rest hm hp, hm, hi, rfl⟩
  | drive r =>
    cases hr : r.rst with
    | true => exact ⟨_, step_reset s r rest hm hp hr, hm, rfl, rfl⟩
    | false =>
      have hkeeps : r.keepsContract = true := by simpa [Event.keepsContract, hr] using hk
      obtain ⟨-, t, hs, hx⟩ := contract_step s r rest hm hi hp hkeeps
      obtain ⟨-, hmarked, hinit, hpending⟩ := exec_next_keeps _ _ t hx
      exact ⟨t, hs, hmarked.trans hm, hinit.trans hi, hpending⟩

/-- Settles O38: step by step, and where the queue is done the state holds. -/
theorem hostWithinTheContractIsNeverStopped : Obligations.HostWithinTheContractIsNeverStopped := by
  intro n
  induction n with
  | zero => exact fun s hm hi _ => ⟨s, rfl, rfl, hi, hm⟩
  | succ n ih =>
    intro s hm hi hk
    cases hp : s.pending with
    | nil =>
      obtain ⟨t, hrun, hpending, hinit, hmarked⟩ := ih s hm hi hk
      rw [hp, List.drop_nil] at hpending
      exact ⟨t, by rw [runFor_succ_next n s s (step_idle s hm hp), hrun], hpending, hinit, hmarked⟩
    | cons e rest =>
      rw [hp] at hk
      obtain ⟨hke, hkrest⟩ := List.forall_mem_cons.1 hk
      obtain ⟨u, hs, hmu, hiu, hpu⟩ := contract_event_step s e rest hm hi hp hke
      obtain ⟨t, hrun, hpending, hinit, hmarked⟩ := ih u hmu hiu (hpu ▸ hkrest)
      exact ⟨t, by rw [runFor_succ_next n s u hs, hrun], hpu ▸ hpending, hinit, hmarked⟩

/-- A line after `k` TICKs that hold it against the bit `c`, from count 0 (R100): it counts up to 3, and the 4th flips
it. -/
structure Line.HeldAgainst (c : Bool) (k : Nat) (l : Line) : Prop where
  count : l.count.toNat = if k < 4 then k else 0
  confirmed : l.confirmed = if k < 4 then c else !c

theorem Line.heldAgainst_zero (l : Line) (h : l.count = .stable) : l.HeldAgainst l.confirmed 0 :=
  ⟨by rw [h]; rfl, rfl⟩

theorem Line.HeldAgainst.tick {c : Bool} {k : Nat} {l : Line} (h : l.HeldAgainst c k) :
    (lineRow l (!c)).HeldAgainst c (k + 1) := by
  obtain ⟨hcount, hconf⟩ := h
  by_cases hk : k < 4
  · rw [if_pos hk] at hcount hconf
    have hne : (!c) ≠ l.confirmed := hconf ▸ by simp
    have hcount' := lineRow_count_disagree l _ hne
    have hconf' := lineRow_confirmed_disagree l _ hne
    rw [hcount] at hcount' hconf'
    rw [hconf] at hconf'
    by_cases h3 : k = 3
    · subst h3
      exact ⟨hcount', hconf'⟩
    · have hk' : k + 1 < 4 := by omega
      constructor
      · rw [hcount', if_pos hk', Nat.mod_eq_of_lt hk']
      · rw [hconf', if_neg h3, if_pos hk']
  · rw [if_neg hk] at hconf
    have hk' : ¬ k + 1 < 4 := by omega
    rw [← hconf, lineRow_agree]
    exact ⟨by rw [if_neg hk']; rfl, by rw [if_neg hk', hconf]⟩

/-- Settles O40: every TICK of the run holds the line against its first confirmed bit. -/
theorem heldDisagreementFlipsOnceOnTheFourthTick : Obligations.HeldDisagreementFlipsOnceOnTheFourthTick := by
  intro i s es later hm hi hmask hstable hp hk hraw
  obtain ⟨t, hrun, -, -, -, -, hline⟩ := run_keeps_line i (Line.HeldAgainst (s.line i).confirmed) es s later 0
    hm hi hmask hp hk (Line.heldAgainst_zero _ hstable)
    (fun k l e he ht hl => by rw [hraw e he ht]; exact hl.tick)
  rw [Nat.zero_add] at hline
  exact ⟨t, hrun, hline.count, hline.confirmed⟩

/-- A line after `k` TICKs that sampled its confirmed bit `c` (R100). -/
structure Line.HeldAt (c : Bool) (k : Nat) (l : Line) : Prop where
  confirmed : l.confirmed = c
  stable : 0 < k → l.count = .stable

theorem Line.HeldAt.tick {c : Bool} {k : Nat} {l : Line} (h : l.HeldAt c k) :
    (lineRow l c).HeldAt c (k + 1) := by
  obtain ⟨rfl, -⟩ := h
  rw [lineRow_agree]
  exact ⟨rfl, fun _ => rfl⟩

/-- Settles O41: every TICK of the run samples the confirmed bit. -/
theorem agreeingLineIsStable : Obligations.AgreeingLineIsStable := by
  intro i s es later hm hi hmask hp hk hraw
  obtain ⟨t, hrun, -, -, -, -, hline⟩ := run_keeps_line i (Line.HeldAt (s.line i).confirmed) es s later 0
    hm hi hmask hp hk ⟨rfl, nofun⟩ (fun k l e he ht hl => by rw [hraw e he ht]; exact hl.tick)
  rw [Nat.zero_add] at hline
  exact ⟨t, hrun, hline.confirmed, hline.stable⟩

/-- A line after `k` TICKs from count 0, while they are fewer than four (R99): the count is not past the TICKs. -/
def Line.Unflipped (c : Bool) (k : Nat) (l : Line) : Prop :=
  k < 4 → l.confirmed = c ∧ l.count.toNat ≤ k

theorem Line.Unflipped.tick {c : Bool} {k : Nat} {l : Line} (h : l.Unflipped c k) (raw : Bool) :
    (lineRow l raw).Unflipped c (k + 1) := by
  intro hk
  obtain ⟨rfl, hcount⟩ := h (by omega)
  by_cases hraw : raw = l.confirmed
  · subst hraw
    rw [lineRow_agree]
    exact ⟨rfl, Nat.zero_le _⟩
  · rw [lineRow_confirmed_disagree l raw hraw, lineRow_count_disagree l raw hraw, if_neg (by omega)]
    exact ⟨rfl, by omega⟩

/-- Settles O42: the count is below 3 before each of these TICKs, and an agreeing TICK clears it. -/
theorem fewerThanFourTicksNeverFlip : Obligations.FewerThanFourTicksNeverFlip := by
  intro i s es later hm hi hmask hstable hp hk hfew
  have hstart : (s.line i).Unflipped (s.line i).confirmed 0 := fun _ => ⟨rfl, by rw [hstable]; exact Nat.le_refl 0⟩
  obtain ⟨t, hrun, hmt, hit, hpt, hparams, hline⟩ := run_keeps_line i (Line.Unflipped (s.line i).confirmed) es s
    later 0 hm hi hmask hp hk hstart (fun k l e _ _ hl => hl.tick _)
  rw [Nat.zero_add] at hline
  obtain ⟨hconf, -⟩ := hline hfew
  refine ⟨t, hrun, hconf, ?_⟩
  rintro r later' rfl hkr htr hraw
  obtain ⟨u, hs, -, -, -, -, hu⟩ := running_step t (.drive r) later' i hmt hit (hparams ▸ hmask) hpt hkr
  refine ⟨u, hs, ?_⟩
  have hticks : (Event.drive r).ticks = true := htr
  rw [hu, if_pos hticks, hparams, hraw, ← hconf, lineRow_agree]

/-- A BUILD within the contract reports the confirmed state (R113). -/
theorem contract_build_step (s : State) (r : Request) (rest : List Event) (hm : s.marked = false)
    (hi : s.init = true) (hp : s.pending = .drive r :: rest) (hk : r.keepsContract = true)
    (hcmd : r.cmd = 0x02#8) : ∃ t report, step s = .next t ∧ t.rpt = some report ∧ report.btn = s.conf := by
  obtain ⟨-, t, hs, hx⟩ := contract_step s r rest hm hi hp hk
  rw [hcmd] at hx
  obtain ⟨-, ⟨h, -⟩ | ⟨h, -⟩ | ⟨h, -⟩ | ⟨-, -, rfl⟩⟩ := exec_next_cases .build _ t hx
  · cases h
  · cases h
  · cases h
  · exact ⟨_, _, hs, State.deliver_rpt _ _, buildReport_btn _ _⟩

/-- A line held pressed from a reset on is held against the bit 0 (R154). -/
theorem run_from_reset_pressed (i : Nat) (s : State) (r : Request) (es later : List Event)
    (hm : s.marked = false) (hmask : s.params.buttonMask.getLsbD i = true) (hrst : r.rst = true)
    (hp : s.pending = .drive r :: (es ++ later)) (hk : ∀ e ∈ es, e.keepsRunning = true)
    (hraw : ∀ e ∈ es, e.ticks = true → e.raw s.params.buttonMask i = true) :
    ∃ t, runFor (es.length + 1) s = .next t ∧ t.marked = false ∧ t.init = true ∧ t.pending = later ∧
      (t.line i).HeldAgainst false (tickCount es) := by
  have hreset := step_reset s r (es ++ later) hm hp hrst
  have hstart := applyReset_line (s.present r (es ++ later)) i
  obtain ⟨t, hrun, hmt, hit, hpt, -, hline⟩ := run_keeps_line i (Line.HeldAgainst false) es
    (s.present r (es ++ later)).applyReset later 0 hm rfl hmask rfl hk
    (hstart ▸ Line.heldAgainst_zero ⟨.stable, false⟩ rfl)
    (fun k l e he ht hl => by
      have hpressed : e.raw s.params.buttonMask i = !false := hraw e he ht
      exact hpressed ▸ hl.tick)
  rw [Nat.zero_add] at hline
  exact ⟨t, by rw [runFor_succ_next _ _ _ hreset, hrun], hmt, hit, hpt, hline⟩

/-- Settles O43: from the reset on the line is held against 0, and the report carries its confirmed bit. -/
theorem pressHeldFromResetIsReportedFromTheFourthTick :
    Obligations.PressHeldFromResetIsReportedFromTheFourthTick := by
  intro i s reset build es later hm hmask hrst hkb hcmd hp hk hraw
  obtain ⟨t, hrun, hmt, hit, hpt, hline⟩ :=
    run_from_reset_pressed i s reset es (.drive build :: later) hm hmask hrst hp hk hraw
  obtain ⟨v, report, hbuild, hrpt, hbtn⟩ := contract_build_step t build later hmt hit hpt hkb hcmd
  refine ⟨v, report, ?_, hrpt, ?_⟩
  · rw [runFor_add (es.length + 1) 1 s t hrun, runFor_succ_next 0 t v hbuild, runFor]
  · have hconf : report.btn.getLsbD i = (t.line i).confirmed := by rw [hbtn, State.line]
    rw [hconf, hline.confirmed]
    by_cases h4 : tickCount es < 4
    · simp [h4]
    · simp [h4, Nat.le_of_not_lt h4]

end Sys2Proof.Machine

/-! ## The planes before the first reset (10_state.md R29) -/

namespace Sys2Proof.Machine

/-- Before the first reset a command stops before it reads a plane. -/
theorem exec_setPlanes_of_uninit (i : Instr) (s : State) (p : Planes) (h : s.init = false) :
    exec i (s.setPlanes p) = exec i s := by
  cases i with
  | reserved w => rfl
  | nop => rw [exec_uninit .nop s h nofun, exec_uninit .nop (s.setPlanes p) h nofun]
  | tick => rw [exec_uninit .tick s h nofun, exec_uninit .tick (s.setPlanes p) h nofun]
  | build => rw [exec_uninit .build s h nofun, exec_uninit .build (s.setPlanes p) h nofun]
  | consume => rw [exec_uninit .consume s h nofun, exec_uninit .consume (s.setPlanes p) h nofun]

/-- The results `o` and `o'` of two states that differ in their planes `p` only: either they are the same, or both
completed without a reset and still differ in the planes only. -/
def Result.SameButPlanes (p : Planes) (o o' : Result) : Prop :=
  o' = o ∨ ∃ t, o = .next t ∧ t.init = false ∧ o' = .next (t.setPlanes p)

/-- Before the first reset a step hands the planes on, overwrites them, or stops. -/
theorem step_setPlanes_of_uninit (s : State) (p : Planes) (h : s.init = false) :
    Result.SameButPlanes p (step s) (step (s.setPlanes p)) := by
  by_cases hm : s.marked = true
  · exact .inl (step_congr_of_marks s _ rfl rfl fun hm' => absurd (hm'.symm.trans hm) Bool.false_ne_true)
  · replace hm : s.marked = false := Bool.eq_false_iff.2 hm
    rcases hp : s.pending with _ | ⟨_ | _ | _, rest⟩
    case nil => exact .inr ⟨s, step_idle s hm hp, h, step_idle (s.setPlanes p) hm hp⟩
    case cons.lifecycle e =>
      exact .inr ⟨_, step_lifecycle s e rest hm hp, h, step_lifecycle (s.setPlanes p) e rest hm hp⟩
    case cons.powerLoss =>
      rw [step_powerLoss s rest hm hp, step_powerLoss (s.setPlanes p) rest hm hp]
      exact .inl rfl
    case cons.drive r =>
      cases hr : r.rst with
      | true =>
        rw [step_reset s r rest hm hp hr, step_reset (s.setPlanes p) r rest hm hp hr]
        exact .inl rfl
      | false =>
        rw [step_command s r rest hm hp hr, step_command (s.setPlanes p) r rest hm hp hr]
        exact .inl (congrArg (refuseOverlap r) (exec_setPlanes_of_uninit _ (s.present r rest) p h))

theorem runFor_setPlanes_of_uninit (n : Nat) (s : State) (p : Planes) (h : s.init = false) :
    Result.SameButPlanes p (runFor n s) (runFor n (s.setPlanes p)) := by
  induction n generalizing s with
  | zero => exact .inr ⟨s, rfl, h, rfl⟩
  | succ n ih =>
    rcases step_setPlanes_of_uninit s p h with hsame | ⟨t, hs, ht, hs'⟩
    · exact .inl (by rw [runFor, hsame, runFor])
    · rw [runFor_succ_next n s t hs, runFor_succ_next n _ _ hs']
      exact ih t ht

/-- Settles O36: where the two runs differ, both complete in a state that no reset has reached. -/
theorem planesBeforeResetNeverLeak : Obligations.PlanesBeforeResetNeverLeak := by
  intro n s p h
  rcases runFor_setPlanes_of_uninit n s p h with hsame | ⟨u, hu, hinit, -⟩
  · rw [hsame]
    exact ⟨fun _ ht _ => ht, fun _ hf => hf, fun _ hf => hf⟩
  · rw [hu]
    refine ⟨?_, nofun, nofun⟩
    rintro t ⟨⟩ ht
    exact absurd (hinit.symm.trans ht) Bool.false_ne_true

end Sys2Proof.Machine
